-- ==== Sys2Proof/Word.lean ====
section
/-! DEFINITION. The word of the block and its address: the types every other file uses. -/

namespace Sys2Proof

/-- A 32-bit word: a host register, a bank word, a ROM word, a bus datum (rules R28, R57, R80). -/
abbrev Word := BitVec 32

/-- One byte lane of a word as a host system sees it (rule R59); the block itself never sees bytes. -/
abbrev Byte := BitVec 8

/-- A 24-bit byte address of the host address space (rule R50). -/
abbrev Addr := BitVec 24

end Sys2Proof
end

