-- ==== Sys2Proof/Syntax.lean ====
section
/-! DEFINITION. The instructions: one constructor per row of spec/opcode_table.json (host commands, sequencer
micro-operations, bus operations; rule R3), the encoded forms they are read from (rules R80, R84, R89), and the
events a host can present to the block (rules R64, R88, R290). -/

namespace Sys2Proof

/-- The instructions of the block, in the order of the opcode table. -/
inductive Instr where
  /-- FFT_FWD: the command word 0x00000001 (rules R82, R232). -/
  | fftFwd
  /-- FFT_INV: the command word 0x00000002 (rules R82, R233). -/
  | fftInv
  /-- BADCMD: any other command word, by its fields RSV = CMD[31:4] and OPC = CMD[3:0] (rules R81, R83, R235). -/
  | badCmd (rsv : BitVec 28) (opc : BitVec 4)
  /-- VALIDATE: micro-operation code 1 (rule R234). -/
  | validate
  /-- PERMUTE: micro-operation code 2 (rule R153). -/
  | permute
  /-- BASE_FWD: micro-operation code 3, one section (rule R171). -/
  | baseFwd
  /-- BASE_INV: micro-operation code 4, one section (rule R172). -/
  | baseInv
  /-- MERGE_FWD: micro-operation code 5, one stage (rule R191). -/
  | mergeFwd
  /-- MERGE_INV: micro-operation code 6, one stage (rule R192). -/
  | mergeInv
  /-- COPYBACK: micro-operation code 7 (rule R197). -/
  | copyback
  /-- NORMALIZE: micro-operation code 8 (rule R220). -/
  | normalize
  /-- RD: one host read of the word at a byte address (rule R55). -/
  | rd (addr : Addr)
  /-- WR: one host write of a word at a byte address (rule R56). -/
  | wr (addr : Addr) (data : Word)
deriving DecidableEq, Repr

/-- STATUS.PHASE: the micro-operation in progress, or none (rule R84). -/
inductive Phase where
  | idle | validate | permute | baseFwd | baseInv | mergeFwd | mergeInv | copyback | normalize
deriving DecidableEq, Repr

/-- The direction of a bus transaction (rule R89). -/
inductive BusDir where
  | r | w
deriving DecidableEq, Repr

/-- One bus transaction as the triple `(dir, addr, data)` of rule R89. For a read, `data` is the word the read
returns, which the host does not supply: the block ignores it. -/
structure BusTriple where
  dir  : BusDir
  addr : Addr
  data : Word
deriving DecidableEq, Repr

/-- An encoded instruction (rule R80): a bus transaction, whose write to CMD carries a command word, or a
micro-operation code as STATUS.PHASE reports it. -/
inductive Code where
  | bus   (t : BusTriple)
  | phase (code : BitVec 4)
deriving DecidableEq, Repr

/-- What stands next outside the block: a bus transaction, a `poll` statement (rule R88), a turn left to the
sequencer (rule R64), or the reset input (rule R290). -/
inductive HostEvent where
  /-- The host issues one bus transaction. -/
  | access (t : BusTriple)
  /-- The host repeats a read of `addr` until the word returned, masked, is `value`. -/
  | poll (addr : Addr) (mask value : Word)
  /-- The host issues nothing: the sequencer may take one step. -/
  | turn
  /-- The reset input is applied. -/
  | reset
deriving DecidableEq, Repr

end Sys2Proof
end

