-- ==== Sys2Proof/WellFormed.lean ====
section
/-! DEFINITION. Which instructions have an encoding of their own: a BADCMD word is none of the two command words,
and a WR that names the CMD register is no WR row, since its encoding is a command (rules R56, R83, R230). -/

namespace Sys2Proof

/-- The word of a command with the given fields (rule R81). -/
def commandWord (rsv : BitVec 28) (opc : BitVec 4) : Word := rsv ++ opc

/-- The byte address of CMD (rule R51). -/
def cmdAddr : Addr := 0x000004#24

/-- The fields of BADCMD: an operation code other than 1 and 2, or a reserved field that is not zero (rule R83). -/
def badCommandFields (rsv : BitVec 28) (opc : BitVec 4) : Bool :=
  rsv != 0#28 || (opc != 1#4 && opc != 2#4)

/-- The check of an instruction: every operand stands for the row it is written under. -/
def Instr.wf : Instr → Bool
  | .badCmd rsv opc => badCommandFields rsv opc
  | .wr addr _ => addr != cmdAddr
  | .fftFwd => true
  | .fftInv => true
  | .validate => true
  | .permute => true
  | .baseFwd => true
  | .baseInv => true
  | .mergeFwd => true
  | .mergeInv => true
  | .copyback => true
  | .normalize => true
  | .rd _ => true

end Sys2Proof
end

