-- ==== Sys2Proof/Decode.lean ====
section
/-! DEFINITION. The decoder, total on every encoded form and rejecting by name, the encoder, the byte lanes of
rule R59, and the host's view of a row of the opcode table as a word. -/

namespace Sys2Proof

/-- Why a code is no instruction. -/
inductive DecodeError where
  /-- PHASE 0x0: no command is running (rule R84). -/
  | idlePhase
  /-- PHASE 0x9 to 0xF, which is never reported (rule R84). -/
  | reservedPhase (code : BitVec 4)
deriving DecidableEq, Repr

/-- The command a word written to CMD stands for (rules R81 to R83). -/
def decodeCmd (w : Word) : Instr :=
  if w = 0x00000001#32 then .fftFwd
  else if w = 0x00000002#32 then .fftInv
  else .badCmd (w.extractLsb' 4 28) (w.extractLsb' 0 4)

/-- The micro-operation a PHASE code stands for (rule R84). -/
def decodePhase (code : BitVec 4) : Except DecodeError Instr :=
  match code.toNat with
  | 0 => .error .idlePhase
  | 1 => .ok .validate
  | 2 => .ok .permute
  | 3 => .ok .baseFwd
  | 4 => .ok .baseInv
  | 5 => .ok .mergeFwd
  | 6 => .ok .mergeInv
  | 7 => .ok .copyback
  | 8 => .ok .normalize
  | _ => .error (.reservedPhase code)

/-- The instruction a bus transaction stands for: a read, a write, or the command that a write to CMD carries
(rules R55, R56, R89). -/
def decodeBus (t : BusTriple) : Instr :=
  match t.dir with
  | .r => .rd t.addr
  | .w => if t.addr = cmdAddr then decodeCmd t.data else .wr t.addr t.data

/-- The decoder. -/
def decode : Code → Except DecodeError Instr
  | .bus t => .ok (decodeBus t)
  | .phase code => decodePhase code

/-- The code STATUS.PHASE reports (rule R84). -/
def Phase.code : Phase → BitVec 4
  | .idle => 0x0#4
  | .validate => 0x1#4
  | .permute => 0x2#4
  | .baseFwd => 0x3#4
  | .baseInv => 0x4#4
  | .mergeFwd => 0x5#4
  | .mergeInv => 0x6#4
  | .copyback => 0x7#4
  | .normalize => 0x8#4

/-- A command word as the write to CMD that carries it (rule R90). -/
def cmdWrite (w : Word) : Code := .bus { dir := .w, addr := cmdAddr, data := w }

/-- The encoder. The `data` of a read triple is the word returned, which is not part of the request: it is given as 0. -/
def encode : Instr → Code
  | .fftFwd => cmdWrite 0x00000001#32
  | .fftInv => cmdWrite 0x00000002#32
  | .badCmd rsv opc => cmdWrite (commandWord rsv opc)
  | .validate => .phase 0x1#4
  | .permute => .phase 0x2#4
  | .baseFwd => .phase 0x3#4
  | .baseInv => .phase 0x4#4
  | .mergeFwd => .phase 0x5#4
  | .mergeInv => .phase 0x6#4
  | .copyback => .phase 0x7#4
  | .normalize => .phase 0x8#4
  | .rd addr => .bus { dir := .r, addr := addr, data := 0#32 }
  | .wr addr data => .bus { dir := .w, addr := addr, data := data }

/-- Byte lane j of a word, bits [8j+7 : 8j] (rule R59). -/
def byteLane (w : Word) (j : Nat) : Byte := w.extractLsb' (8 * j) 8

/-- The word whose byte lanes 0 to 3 are the given bytes, lane 0 at the lowest address (rule R59). -/
def ofByteLanes (b0 b1 b2 b3 : Byte) : Word := b3 ++ b2 ++ b1 ++ b0

/-- Whether a word of the opcode table is read in the format `phase` (log 14): the row gives bits up to 11 only, or
the word has no bit outside PHASE and DIR and a PHASE code that names a micro-operation. -/
def isPhaseRow (nbits w : Nat) : Bool :=
  if nbits ≤ 8 then false
  else if nbits ≤ 16 then true
  else
    let p := w / 256 % 16
    decide (1 ≤ p) && decide (p ≤ 8) && (w == 256 * p || w == 256 * p + 8)

/-- The encoded form of a word of the opcode table: PHASE is bits 11:8, and a command word is what is written to CMD. -/
def tableCode (nbits w : Nat) : Code :=
  if isPhaseRow nbits w then .phase (BitVec.ofNat 4 (w / 256))
  else cmdWrite (ofByteLanes (byteLane (BitVec.ofNat 32 w) 0) (byteLane (BitVec.ofNat 32 w) 1)
    (byteLane (BitVec.ofNat 32 w) 2) (byteLane (BitVec.ofNat 32 w) 3))

/-- The instruction the decoder reads from a word of the opcode table (log 14). -/
def decodeTableWord (nbits w : Nat) : Option Instr :=
  match decode (tableCode nbits w) with
  | .ok i => some i
  | .error _ => none

end Sys2Proof
end

