-- ==== Sys2Proof/Config.lean ====
section
/-! DEFINITION. What an instance of the block fixes (rules R8 to R13, R86), and the values the spec leaves open:
opaque constants, so that no proof can see what they are. -/

namespace Sys2Proof

/-- `LOG2B` (rules R8, R10). -/
def Config.log2B : Nat := 5

/-- The base block size `B = 32 = 2^LOG2B` (rule R8). -/
def Config.B : Nat := 32

/-- `LOG2S` (rules R9, R10). -/
def Config.log2S : Nat := 10

/-- The sample-table size `S = 1024 = 2^LOG2S` (rule R9). -/
def Config.S : Nat := 1024

/-- The numeric backend of an instance (rule R12). -/
inductive Backend where
  | scalar | vec4A | vec4B | vec4C | vec4D | vecArm
deriving DecidableEq, Repr

/-- The two reduction orders of the base-block sums (rule R111). -/
inductive Order where
  | seq | vec4
deriving DecidableEq, Repr

/-- The parameters of one instance: LOG2_NMAX, BACKEND, NUM_LANES (rules R11 to R13). -/
structure Params where
  log2Nmax : Nat
  backend  : Backend
  lanes    : Nat
deriving DecidableEq, Repr

/-- `NMAX = 2^LOG2_NMAX` (rule R11). -/
def Params.nmax (p : Params) : Nat := 2 ^ p.log2Nmax

/-- The ranges of rules R11 and R13. -/
abbrev Params.wf (p : Params) : Prop :=
  5 ≤ p.log2Nmax ∧ p.log2Nmax ≤ 20 ∧ 1 ≤ p.lanes ∧ p.lanes ≤ 255

/-- DESIGN CHOICE (log 1): the instance that `State.reset` stands for, the one of 95_test_vectors.md. -/
def Params.default : Params := { log2Nmax := 16, backend := .scalar, lanes := 4 }

/-- Free value (log 7): what a bank word holds after the reset numbered `epoch` until something writes it
(rules R28, R31, R291): arguments epoch, bank code, index. -/
opaque Config.resetWord : Nat → Nat → Nat → Word

/-- Free value (log 9): what a data-window read returns while BUSY = 1 (rule R61); the argument is the draw counter. -/
opaque Config.busyWord : Nat → Word

/-- Free value (log 8): sign and fraction (less one) of the pattern a NaN result is stored with (rule R107):
arguments draw counter, bank code, index. -/
opaque Config.nanPattern : Nat → Nat → Nat → Bool × Fin 8388607

end Sys2Proof
end

