-- ==== Sys2Proof/Machine/Float.lean ====
section
/-! DEFINITION. The multiply-accumulate pipeline (rules R100 to R116): binary32 values, rounding, the five primitive
operations, the rotations and the reductions. A NaN has no pattern here: rule R107 leaves it free and no rule reads
it, so a pattern is drawn only where a word is stored (Machine/Ops.lean). -/

namespace Sys2Proof.Machine

/-- A binary32 value (rule R100). A finite value is `(-1)^neg * sig * 2^exp * 2^(-149)`: for a normal word
`sig = 2^23 + f` and `exp = e - 1`, for a zero or a subnormal `sig = f` and `exp = 0`. -/
inductive Fl where
  | nan
  | inf (neg : Bool)
  | fin (neg : Bool) (sig exp : Nat)
deriving DecidableEq, Repr

/-- The finite values that binary32 has, one constructor term each. -/
def Fl.wf : Fl → Bool
  | .nan => true
  | .inf _ => true
  | .fin _ sig exp => (sig.blt 16777216) && ((exp == 0) || (Nat.ble 8388608 sig)) && (exp.ble 253)

/-- Positive zero. -/
def Fl.zero : Fl := .fin false 0 0

/-- `1.0`, the word 0x3F800000. -/
def Fl.one : Fl := .fin false 8388608 126

/-- The value of a word (rule R100). -/
def Fl.ofWord (w : Word) : Fl :=
  let n := w.toNat
  let f := n % 8388608
  let e := n / 8388608 % 256
  let neg := Nat.ble 2147483648 n
  bif e == 255 then (bif f == 0 then .inf neg else .nan)
  else bif e == 0 then .fin neg f 0
  else .fin neg (8388608 + f) (e - 1)

/-- The sign bit of a word as a number. -/
def signBit (neg : Bool) : Nat := bif neg then 2147483648 else 0

/-- The word of a value (rule R100); `draw` is the pattern a NaN is stored with (rule R107). -/
def Fl.toWord (draw : Word) : Fl → Word
  | .nan => draw
  | .inf neg => BitVec.ofNat 32 (signBit neg + 2139095040)
  | .fin neg sig exp => BitVec.ofNat 32 (signBit neg + exp * 8388608 + sig)

/-- A NaN pattern of the given sign and fraction: exponent 0xFF, fraction not zero (rule R107). -/
def nanWord (p : Bool × Fin 8388607) : Word :=
  BitVec.ofBool p.1 ++ 0xFF#8 ++ BitVec.ofNat 23 (p.2.val + 1)

/-- One binary digit of `bitLog`: the part of the logarithm in `[k, 2k)` and below. -/
def bitLogStep (k : Nat) (lower : Nat → Nat) (n : Nat) : Nat :=
  bif Nat.ble (1 <<< k) n then k + lower (n >>> k) else lower n

/-- The position of the highest bit of n (0 for n = 0), for n below 2^1024. -/
def bitLog (n : Nat) : Nat :=
  bitLogStep 512 (bitLogStep 256 (bitLogStep 128 (bitLogStep 64 (bitLogStep 32
    (bitLogStep 16 (bitLogStep 8 (bitLogStep 4 (bitLogStep 2 (bitLogStep 1 (fun _ => 0)))))))))) n

/-- `num / den` rounded to a natural number, ties to the even one. -/
def roundHalfEven (num den : Nat) : Nat :=
  bif (2 * (num % den)).blt den then num / den
  else bif den.blt (2 * (num % den)) then num / den + 1
  else num / den + num / den % 2

/-- A rounded significand and exponent as a value: an exponent past the largest gives an infinity (rule R101). -/
def packFl (neg : Bool) (sig exp : Nat) : Fl :=
  bif Nat.ble 254 exp then .inf neg else .fin neg sig exp

/-- `RN32` of the real `(num / den) * 2^(-149)` with the given sign: round to nearest, ties to even, subnormals kept,
overflow to an infinity; a zero takes the given sign (rule R101; the sign of a zero is the primitive's, R102 to R104). -/
def rn32 (neg : Bool) (num den : Nat) : Fl :=
  let exp := bitLog (num / den) - 23
  let sig := roundHalfEven num (den <<< exp)
  bif sig == 16777216 then packFl neg 8388608 (exp + 1) else packFl neg sig exp

/-- `RN32(N)` of a natural number. -/
def Fl.ofNat (n : Nat) : Fl := rn32 false (n <<< 149) 1

/-- `fmul` (rule R102). -/
def fmul : Fl → Fl → Fl
  | .nan, _ => .nan
  | .inf _, .nan => .nan
  | .fin _ _ _, .nan => .nan
  | .inf s, .inf t => .inf (s ^^ t)
  | .inf s, .fin t n _ => bif n == 0 then .nan else .inf (s ^^ t)
  | .fin s m _, .inf t => bif m == 0 then .nan else .inf (s ^^ t)
  | .fin s m e, .fin t n f => rn32 (s ^^ t) ((m * n) <<< (e + f)) (1 <<< 149)

/-- `fadd` (rule R103). -/
def fadd : Fl → Fl → Fl
  | .nan, _ => .nan
  | .inf _, .nan => .nan
  | .fin _ _ _, .nan => .nan
  | .inf s, .inf t => bif s ^^ t then .nan else .inf s
  | .inf s, .fin _ _ _ => .inf s
  | .fin _ _ _, .inf t => .inf t
  | .fin s m e, .fin t n f =>
    let x := m <<< e
    let y := n <<< f
    bif s ^^ t then
      bif x == y then Fl.zero
      else bif y.blt x then rn32 s (x - y) 1
      else rn32 t (y - x) 1
    else rn32 s (x + y) 1

/-- The value with its sign bit flipped. -/
def fneg : Fl → Fl
  | .nan => .nan
  | .inf s => .inf (!s)
  | .fin s m e => .fin (!s) m e

/-- `fsub a b = fadd a (-b)` (rule R103). -/
def fsub (a b : Fl) : Fl := fadd a (fneg b)

/-- `fdiv a d` for `d = 2^n` (rule R104), by the same formula for every positive finite d. DESIGN CHOICE (log 19): any
other divisor is outside the rule and reached by no run; an infinity divided by +0 gives the infinity of its own sign,
and everything else divided by such a divisor gives a NaN. -/
def fdiv : Fl → Fl → Fl
  | .inf s, .fin false _ _ => .inf s
  | .fin s m e, .fin false n f => bif n == 0 then .nan else rn32 s ((m <<< e) <<< 149) (n <<< f)
  | _, _ => .nan

/-- The largest r + x below 2^k + r with (r + x)^2 at most n, found bit by bit from bit k - 1 down. -/
def sqrtBits (n : Nat) : Nat → Nat → Nat
  | 0, r => r
  | k + 1, r => bif ((r + 1 <<< k) * (r + 1 <<< k)).ble n then sqrtBits n k (r + 1 <<< k) else sqrtBits n k r

/-- The integer square root, rounded down. -/
def natSqrt (n : Nat) : Nat := sqrtBits n (bitLog n / 2 + 1) 0

/-- `fsqrt` (rule R105). The exact root of `m * 2^e * 2^(-149)` is `sqrt(m * 2^(e+149))` in units of `2^(-149)`: its
integer part has more than 25 bits, so one further bit that says whether it is exact decides the rounding. -/
def fsqrt : Fl → Fl
  | .nan => .nan
  | .inf s => bif s then .nan else .inf false
  | .fin s m e =>
    bif m == 0 then .fin s 0 0
    else bif s then .nan
    else
      let n := m <<< (e + 149)
      let r := natSqrt n
      rn32 false (2 * r + (bif r * r == n then 0 else 1)) 2

/-- The direction of a command (rule R34): F or I. -/
inductive Dir where
  | fwd | inv
deriving DecidableEq, Repr

/-- `rotF` (rule R110): `(a + ib)(c - is)`, real and imaginary part. -/
def rotF (a b c s : Fl) : Fl × Fl := (fadd (fmul a c) (fmul b s), fsub (fmul b c) (fmul a s))

/-- `rotI` (rule R110): `(a + ib)(c + is)`, real and imaginary part. -/
def rotI (a b c s : Fl) : Fl × Fl := (fsub (fmul a c) (fmul b s), fadd (fmul b c) (fmul a s))

/-- The rotation of a direction. -/
def rot : Dir → Fl → Fl → Fl → Fl → Fl × Fl
  | .fwd => rotF
  | .inv => rotI

/-- SEQ order (rule R112), from a given accumulator. -/
def reduceSeqFrom : Fl → List Fl → Fl
  | acc, [] => acc
  | acc, t :: ts => reduceSeqFrom (fadd acc t) ts

/-- VEC4 order (rule R113), from a given accumulator: each group of four as a pairwise tree. The terms come in
fours; a shorter rest is not a group and there is none in 32 terms. -/
def reduceVec4From : Fl → List Fl → Fl
  | acc, a :: b :: c :: d :: ts => reduceVec4From (fadd acc (fadd (fadd a b) (fadd c d))) ts
  | acc, _ => acc

/-- The order a backend sums in (rule R114). -/
def orderOf : Backend → Order
  | .scalar => .seq
  | .vec4A => .vec4
  | .vec4B => .vec4
  | .vec4C => .vec4
  | .vec4D => .vec4
  | .vecArm => .vec4

/-- `reduce` (rules R112 to R114): the accumulator starts at +0. -/
def reduce : Order → List Fl → Fl
  | .seq, ts => reduceSeqFrom Fl.zero ts
  | .vec4, ts => reduceVec4From Fl.zero ts

end Sys2Proof.Machine
end

