-- ==== Sys2Proof/Machine/Rom.lean ====
section
/-! DEFINITION. The four trig ROMs (rules R33, R130): their contents are the tables of rules R133 and R136, which are
the values of rules R131, R134 and R135 (log 13). -/

namespace Sys2Proof.Machine

/-- The read-only tables BCOS[0..31], BSIN[0..31], SCOS[0..1023], SSIN[0..1023] (rule R33). -/
structure Rom where
  bcos : List Word
  bsin : List Word
  scos : List Word
  ssin : List Word
deriving DecidableEq, Repr

/-- BCOS (rules R131, R133). -/
def bcosTable : List Word :=
  [0x3F800000#32, 0x3F7B14BE#32, 0x3F6C835E#32, 0x3F54DB31#32, 0x3F3504F3#32, 0x3F0E39DA#32, 0x3EC3EF15#32, 0x3E47C5C2#32,
    0x00000000#32, 0xBE47C5C2#32, 0xBEC3EF15#32, 0xBF0E39DA#32, 0xBF3504F3#32, 0xBF54DB31#32, 0xBF6C835E#32, 0xBF7B14BE#32,
    0xBF800000#32, 0xBF7B14BE#32, 0xBF6C835E#32, 0xBF54DB31#32, 0xBF3504F3#32, 0xBF0E39DA#32, 0xBEC3EF15#32, 0xBE47C5C2#32,
    0x00000000#32, 0x3E47C5C2#32, 0x3EC3EF15#32, 0x3F0E39DA#32, 0x3F3504F3#32, 0x3F54DB31#32, 0x3F6C835E#32, 0x3F7B14BE#32]

/-- BSIN (rules R131, R133). -/
def bsinTable : List Word :=
  [0x00000000#32, 0x3E47C5C2#32, 0x3EC3EF15#32, 0x3F0E39DA#32, 0x3F3504F3#32, 0x3F54DB31#32, 0x3F6C835E#32, 0x3F7B14BE#32,
    0x3F800000#32, 0x3F7B14BE#32, 0x3F6C835E#32, 0x3F54DB31#32, 0x3F3504F3#32, 0x3F0E39DA#32, 0x3EC3EF15#32, 0x3E47C5C2#32,
    0x00000000#32, 0xBE47C5C2#32, 0xBEC3EF15#32, 0xBF0E39DA#32, 0xBF3504F3#32, 0xBF54DB31#32, 0xBF6C835E#32, 0xBF7B14BE#32,
    0xBF800000#32, 0xBF7B14BE#32, 0xBF6C835E#32, 0xBF54DB31#32, 0xBF3504F3#32, 0xBF0E39DA#32, 0xBEC3EF15#32, 0xBE47C5C2#32]

/-- SCOS[0..63] (rule R136). -/
def scosPart0 : List Word :=
  [0x3F800000#32, 0x3F7FFFB1#32, 0x3F7FFEC4#32, 0x3F7FFD39#32, 0x3F7FFB11#32, 0x3F7FF84A#32, 0x3F7FF4E6#32, 0x3F7FF0E3#32,
    0x3F7FEC43#32, 0x3F7FE705#32, 0x3F7FE129#32, 0x3F7FDAAF#32, 0x3F7FD397#32, 0x3F7FCBE2#32, 0x3F7FC38F#32, 0x3F7FBA9E#32,
    0x3F7FB10F#32, 0x3F7FA6E3#32, 0x3F7F9C18#32, 0x3F7F90B1#32, 0x3F7F84AB#32, 0x3F7F7808#32, 0x3F7F6AC7#32, 0x3F7F5CE9#32,
    0x3F7F4E6D#32, 0x3F7F3F54#32, 0x3F7F2F9D#32, 0x3F7F1F49#32, 0x3F7F0E58#32, 0x3F7EFCC9#32, 0x3F7EEA9D#32, 0x3F7ED7D4#32,
    0x3F7EC46D#32, 0x3F7EB069#32, 0x3F7E9BC9#32, 0x3F7E868B#32, 0x3F7E70B0#32, 0x3F7E5A38#32, 0x3F7E4323#32, 0x3F7E2B72#32,
    0x3F7E1324#32, 0x3F7DFA38#32, 0x3F7DE0B1#32, 0x3F7DC68C#32, 0x3F7DABCC#32, 0x3F7D906E#32, 0x3F7D7474#32, 0x3F7D57DE#32,
    0x3F7D3AAC#32, 0x3F7D1CDD#32, 0x3F7CFE73#32, 0x3F7CDF6C#32, 0x3F7CBFC9#32, 0x3F7C9F8A#32, 0x3F7C7EB0#32, 0x3F7C5D3A#32,
    0x3F7C3B28#32, 0x3F7C187A#32, 0x3F7BF531#32, 0x3F7BD14D#32, 0x3F7BACCD#32, 0x3F7B87B2#32, 0x3F7B61FC#32, 0x3F7B3BAB#32]

/-- SCOS[64..127] (rule R136). -/
def scosPart1 : List Word :=
  [0x3F7B14BE#32, 0x3F7AED37#32, 0x3F7AC516#32, 0x3F7A9C59#32, 0x3F7A7302#32, 0x3F7A4910#32, 0x3F7A1E84#32, 0x3F79F35E#32,
    0x3F79C79D#32, 0x3F799B43#32, 0x3F796E4E#32, 0x3F7940C0#32, 0x3F791298#32, 0x3F78E3D6#32, 0x3F78B47B#32, 0x3F788486#32,
    0x3F7853F8#32, 0x3F7822D1#32, 0x3F77F110#32, 0x3F77BEB7#32, 0x3F778BC5#32, 0x3F77583A#32, 0x3F772417#32, 0x3F76EF5B#32,
    0x3F76BA07#32, 0x3F76841B#32, 0x3F764D97#32, 0x3F76167A#32, 0x3F75DEC6#32, 0x3F75A67B#32, 0x3F756D97#32, 0x3F75341D#32,
    0x3F74FA0B#32, 0x3F74BF62#32, 0x3F748422#32, 0x3F74484B#32, 0x3F740BDD#32, 0x3F73CED9#32, 0x3F73913F#32, 0x3F73530E#32,
    0x3F731447#32, 0x3F72D4EB#32, 0x3F7294F8#32, 0x3F725470#32, 0x3F721352#32, 0x3F71D19F#32, 0x3F718F57#32, 0x3F714C7A#32,
    0x3F710908#32, 0x3F70C501#32, 0x3F708066#32, 0x3F703B37#32, 0x3F6FF573#32, 0x3F6FAF1B#32, 0x3F6F6830#32, 0x3F6F20B0#32,
    0x3F6ED89E#32, 0x3F6E8FF8#32, 0x3F6E46BE#32, 0x3F6DFCF2#32, 0x3F6DB293#32, 0x3F6D67A1#32, 0x3F6D1C1D#32, 0x3F6CD007#32]

/-- SCOS[128..191] (rule R136). -/
def scosPart2 : List Word :=
  [0x3F6C835E#32, 0x3F6C3624#32, 0x3F6BE858#32, 0x3F6B99FB#32, 0x3F6B4B0C#32, 0x3F6AFB8C#32, 0x3F6AAB7B#32, 0x3F6A5AD9#32,
    0x3F6A09A7#32, 0x3F69B7E4#32, 0x3F696591#32, 0x3F6912AE#32, 0x3F68BF3C#32, 0x3F686B39#32, 0x3F6816A8#32, 0x3F67C187#32,
    0x3F676BD8#32, 0x3F671599#32, 0x3F66BECC#32, 0x3F666771#32, 0x3F660F88#32, 0x3F65B710#32, 0x3F655E0B#32, 0x3F650479#32,
    0x3F64AA59#32, 0x3F644FAC#32, 0x3F63F473#32, 0x3F6398AC#32, 0x3F633C5A#32, 0x3F62DF7B#32, 0x3F628210#32, 0x3F62241A#32,
    0x3F61C598#32, 0x3F61668A#32, 0x3F6106F2#32, 0x3F60A6CF#32, 0x3F604621#32, 0x3F5FE4E9#32, 0x3F5F8327#32, 0x3F5F20DB#32,
    0x3F5EBE05#32, 0x3F5E5AA6#32, 0x3F5DF6BE#32, 0x3F5D924D#32, 0x3F5D2D53#32, 0x3F5CC7D1#32, 0x3F5C61C7#32, 0x3F5BFB34#32,
    0x3F5B941A#32, 0x3F5B2C79#32, 0x3F5AC450#32, 0x3F5A5BA0#32, 0x3F59F26A#32, 0x3F5988AD#32, 0x3F591E6A#32, 0x3F58B3A1#32,
    0x3F584853#32, 0x3F57DC7F#32, 0x3F577026#32, 0x3F570348#32, 0x3F5695E5#32, 0x3F5627FE#32, 0x3F55B993#32, 0x3F554AA4#32]

/-- SCOS[192..255] (rule R136). -/
def scosPart3 : List Word :=
  [0x3F54DB31#32, 0x3F546B3B#32, 0x3F53FAC3#32, 0x3F5389C7#32, 0x3F531849#32, 0x3F52A649#32, 0x3F5233C6#32, 0x3F51C0C2#32,
    0x3F514D3D#32, 0x3F50D937#32, 0x3F5064AF#32, 0x3F4FEFA8#32, 0x3F4F7A1F#32, 0x3F4F0417#32, 0x3F4E8D90#32, 0x3F4E1689#32,
    0x3F4D9F02#32, 0x3F4D26FD#32, 0x3F4CAE79#32, 0x3F4C3578#32, 0x3F4BBBF8#32, 0x3F4B41FA#32, 0x3F4AC77F#32, 0x3F4A4C87#32,
    0x3F49D112#32, 0x3F495521#32, 0x3F48D8B3#32, 0x3F485BCA#32, 0x3F47DE65#32, 0x3F476085#32, 0x3F46E22A#32, 0x3F466354#32,
    0x3F45E403#32, 0x3F456439#32, 0x3F44E3F5#32, 0x3F446337#32, 0x3F43E200#32, 0x3F436051#32, 0x3F42DE29#32, 0x3F425B89#32,
    0x3F41D870#32, 0x3F4154E1#32, 0x3F40D0DA#32, 0x3F404C5C#32, 0x3F3FC767#32, 0x3F3F41FC#32, 0x3F3EBC1B#32, 0x3F3E35C5#32,
    0x3F3DAEF9#32, 0x3F3D27B8#32, 0x3F3CA003#32, 0x3F3C17D9#32, 0x3F3B8F3B#32, 0x3F3B0629#32, 0x3F3A7CA4#32, 0x3F39F2AC#32,
    0x3F396842#32, 0x3F38DD65#32, 0x3F385216#32, 0x3F37C655#32, 0x3F373A23#32, 0x3F36AD7F#32, 0x3F36206C#32, 0x3F3592E7#32]

/-- SCOS[256..319] (rule R136). -/
def scosPart4 : List Word :=
  [0x3F3504F3#32, 0x3F34768F#32, 0x3F33E7BC#32, 0x3F33587A#32, 0x3F32C8C9#32, 0x3F3238AA#32, 0x3F31A81D#32, 0x3F311722#32,
    0x3F3085BB#32, 0x3F2FF3E6#32, 0x3F2F61A5#32, 0x3F2ECEF7#32, 0x3F2E3BDE#32, 0x3F2DA859#32, 0x3F2D1469#32, 0x3F2C800F#32,
    0x3F2BEB4A#32, 0x3F2B561B#32, 0x3F2AC082#32, 0x3F2A2A80#32, 0x3F299415#32, 0x3F28FD41#32, 0x3F286605#32, 0x3F27CE61#32,
    0x3F273656#32, 0x3F269DE3#32, 0x3F26050A#32, 0x3F256BCB#32, 0x3F24D225#32, 0x3F24381A#32, 0x3F239DA9#32, 0x3F2302D3#32,
    0x3F226799#32, 0x3F21CBFB#32, 0x3F212FF9#32, 0x3F209393#32, 0x3F1FF6CB#32, 0x3F1F599F#32, 0x3F1EBC12#32, 0x3F1E1E22#32,
    0x3F1D7FD1#32, 0x3F1CE11F#32, 0x3F1C420C#32, 0x3F1BA299#32, 0x3F1B02C6#32, 0x3F1A6293#32, 0x3F19C200#32, 0x3F19210F#32,
    0x3F187FC0#32, 0x3F17DE12#32, 0x3F173C07#32, 0x3F16999F#32, 0x3F15F6D9#32, 0x3F1553B7#32, 0x3F14B039#32, 0x3F140C5F#32,
    0x3F13682A#32, 0x3F12C39A#32, 0x3F121EB0#32, 0x3F11796B#32, 0x3F10D3CD#32, 0x3F102DD5#32, 0x3F0F8784#32, 0x3F0EE0DB#32]

/-- SCOS[320..383] (rule R136). -/
def scosPart5 : List Word :=
  [0x3F0E39DA#32, 0x3F0D9281#32, 0x3F0CEAD0#32, 0x3F0C42C9#32, 0x3F0B9A6B#32, 0x3F0AF1B7#32, 0x3F0A48AD#32, 0x3F099F4E#32,
    0x3F08F59B#32, 0x3F084B92#32, 0x3F07A136#32, 0x3F06F686#32, 0x3F064B82#32, 0x3F05A02C#32, 0x3F04F484#32, 0x3F044889#32,
    0x3F039C3D#32, 0x3F02EF9F#32, 0x3F0242B1#32, 0x3F019573#32, 0x3F00E7E4#32, 0x3F003A06#32, 0x3EFF17B2#32, 0x3EFDBABB#32,
    0x3EFC5D27#32, 0x3EFAFEF7#32, 0x3EF9A02D#32, 0x3EF840C8#32, 0x3EF6E0CB#32, 0x3EF58035#32, 0x3EF41F07#32, 0x3EF2BD43#32,
    0x3EF15AEA#32, 0x3EEFF7FB#32, 0x3EEE9479#32, 0x3EED3063#32, 0x3EEBCBBB#32, 0x3EEA6681#32, 0x3EE900B7#32, 0x3EE79A5D#32,
    0x3EE63375#32, 0x3EE4CBFE#32, 0x3EE363FA#32, 0x3EE1FB6A#32, 0x3EE0924F#32, 0x3EDF28A9#32, 0x3EDDBE79#32, 0x3EDC53C1#32,
    0x3EDAE880#32, 0x3ED97CB9#32, 0x3ED8106B#32, 0x3ED6A399#32, 0x3ED53641#32, 0x3ED3C867#32, 0x3ED25A09#32, 0x3ED0EB2A#32,
    0x3ECF7BCA#32, 0x3ECE0BEA#32, 0x3ECC9B8B#32, 0x3ECB2AAE#32, 0x3EC9B953#32, 0x3EC8477C#32, 0x3EC6D529#32, 0x3EC5625C#32]

/-- SCOS[384..447] (rule R136). -/
def scosPart6 : List Word :=
  [0x3EC3EF15#32, 0x3EC27B55#32, 0x3EC1071E#32, 0x3EBF926F#32, 0x3EBE1D4A#32, 0x3EBCA7AF#32, 0x3EBB31A0#32, 0x3EB9BB1E#32,
    0x3EB8442A#32, 0x3EB6CCC3#32, 0x3EB554EC#32, 0x3EB3DCA5#32, 0x3EB263EF#32, 0x3EB0EACB#32, 0x3EAF713A#32, 0x3EADF73C#32,
    0x3EAC7CD4#32, 0x3EAB0201#32, 0x3EA986C4#32, 0x3EA80B1F#32, 0x3EA68F12#32, 0x3EA5129F#32, 0x3EA395C5#32, 0x3EA21887#32,
    0x3EA09AE5#32, 0x3E9F1CDF#32, 0x3E9D9E78#32, 0x3E9C1FAF#32, 0x3E9AA086#32, 0x3E9920FE#32, 0x3E97A117#32, 0x3E9620D2#32,
    0x3E94A031#32, 0x3E931F35#32, 0x3E919DDD#32, 0x3E901C2C#32, 0x3E8E9A22#32, 0x3E8D17C0#32, 0x3E8B9507#32, 0x3E8A11F7#32,
    0x3E888E93#32, 0x3E870ADA#32, 0x3E8586CE#32, 0x3E840270#32, 0x3E827DC0#32, 0x3E80F8C0#32, 0x3E7EE6E1#32, 0x3E7BDBA4#32,
    0x3E78CFCC#32, 0x3E75C35A#32, 0x3E72B651#32, 0x3E6FA8B2#32, 0x3E6C9A7F#32, 0x3E698BBA#32, 0x3E667C66#32, 0x3E636C83#32,
    0x3E605C13#32, 0x3E5D4B1A#32, 0x3E5A3997#32, 0x3E57278F#32, 0x3E541501#32, 0x3E5101F1#32, 0x3E4DEE60#32, 0x3E4ADA4F#32]

/-- SCOS[448..511] (rule R136). -/
def scosPart7 : List Word :=
  [0x3E47C5C2#32, 0x3E44B0B9#32, 0x3E419B37#32, 0x3E3E853E#32, 0x3E3B6ECF#32, 0x3E3857EC#32, 0x3E354098#32, 0x3E3228D4#32,
    0x3E2F10A2#32, 0x3E2BF804#32, 0x3E28DEFC#32, 0x3E25C58C#32, 0x3E22ABB6#32, 0x3E1F917B#32, 0x3E1C76DE#32, 0x3E195BE0#32,
    0x3E164083#32, 0x3E1324CA#32, 0x3E1008B7#32, 0x3E0CEC4A#32, 0x3E09CF86#32, 0x3E06B26E#32, 0x3E039502#32, 0x3E007745#32,
    0x3DFAB273#32, 0x3DF475C0#32, 0x3DEE3876#32, 0x3DE7FA9A#32, 0x3DE1BC2E#32, 0x3DDB7D37#32, 0x3DD53DB9#32, 0x3DCEFDB7#32,
    0x3DC8BD36#32, 0x3DC27C39#32, 0x3DBC3AC3#32, 0x3DB5F8DA#32, 0x3DAFB680#32, 0x3DA973BA#32, 0x3DA3308C#32, 0x3D9CECF9#32,
    0x3D96A905#32, 0x3D9064B4#32, 0x3D8A200A#32, 0x3D83DB0A#32, 0x3D7B2B74#32, 0x3D6EA038#32, 0x3D621469#32, 0x3D55880E#32,
    0x3D48FB30#32, 0x3D3C6DD5#32, 0x3D2FE007#32, 0x3D2351CB#32, 0x3D16C32C#32, 0x3D0A342F#32, 0x3CFB49BA#32, 0x3CE22A7A#32,
    0x3CC90AB0#32, 0x3CAFEA69#32, 0x3C96C9B6#32, 0x3C7B514B#32, 0x3C490E90#32, 0x3C16CB58#32, 0x3BC90F88#32, 0x3B490FC6#32]

/-- SCOS[512..575] (rule R136). -/
def scosPart8 : List Word :=
  [0x00000000#32, 0xBB490FC6#32, 0xBBC90F88#32, 0xBC16CB58#32, 0xBC490E90#32, 0xBC7B514B#32, 0xBC96C9B6#32, 0xBCAFEA69#32,
    0xBCC90AB0#32, 0xBCE22A7A#32, 0xBCFB49BA#32, 0xBD0A342F#32, 0xBD16C32C#32, 0xBD2351CB#32, 0xBD2FE007#32, 0xBD3C6DD5#32,
    0xBD48FB30#32, 0xBD55880E#32, 0xBD621469#32, 0xBD6EA038#32, 0xBD7B2B74#32, 0xBD83DB0A#32, 0xBD8A200A#32, 0xBD9064B4#32,
    0xBD96A905#32, 0xBD9CECF9#32, 0xBDA3308C#32, 0xBDA973BA#32, 0xBDAFB680#32, 0xBDB5F8DA#32, 0xBDBC3AC3#32, 0xBDC27C39#32,
    0xBDC8BD36#32, 0xBDCEFDB7#32, 0xBDD53DB9#32, 0xBDDB7D37#32, 0xBDE1BC2E#32, 0xBDE7FA9A#32, 0xBDEE3876#32, 0xBDF475C0#32,
    0xBDFAB273#32, 0xBE007745#32, 0xBE039502#32, 0xBE06B26E#32, 0xBE09CF86#32, 0xBE0CEC4A#32, 0xBE1008B7#32, 0xBE1324CA#32,
    0xBE164083#32, 0xBE195BE0#32, 0xBE1C76DE#32, 0xBE1F917B#32, 0xBE22ABB6#32, 0xBE25C58C#32, 0xBE28DEFC#32, 0xBE2BF804#32,
    0xBE2F10A2#32, 0xBE3228D4#32, 0xBE354098#32, 0xBE3857EC#32, 0xBE3B6ECF#32, 0xBE3E853E#32, 0xBE419B37#32, 0xBE44B0B9#32]

/-- SCOS[576..639] (rule R136). -/
def scosPart9 : List Word :=
  [0xBE47C5C2#32, 0xBE4ADA4F#32, 0xBE4DEE60#32, 0xBE5101F1#32, 0xBE541501#32, 0xBE57278F#32, 0xBE5A3997#32, 0xBE5D4B1A#32,
    0xBE605C13#32, 0xBE636C83#32, 0xBE667C66#32, 0xBE698BBA#32, 0xBE6C9A7F#32, 0xBE6FA8B2#32, 0xBE72B651#32, 0xBE75C35A#32,
    0xBE78CFCC#32, 0xBE7BDBA4#32, 0xBE7EE6E1#32, 0xBE80F8C0#32, 0xBE827DC0#32, 0xBE840270#32, 0xBE8586CE#32, 0xBE870ADA#32,
    0xBE888E93#32, 0xBE8A11F7#32, 0xBE8B9507#32, 0xBE8D17C0#32, 0xBE8E9A22#32, 0xBE901C2C#32, 0xBE919DDD#32, 0xBE931F35#32,
    0xBE94A031#32, 0xBE9620D2#32, 0xBE97A117#32, 0xBE9920FE#32, 0xBE9AA086#32, 0xBE9C1FAF#32, 0xBE9D9E78#32, 0xBE9F1CDF#32,
    0xBEA09AE5#32, 0xBEA21887#32, 0xBEA395C5#32, 0xBEA5129F#32, 0xBEA68F12#32, 0xBEA80B1F#32, 0xBEA986C4#32, 0xBEAB0201#32,
    0xBEAC7CD4#32, 0xBEADF73C#32, 0xBEAF713A#32, 0xBEB0EACB#32, 0xBEB263EF#32, 0xBEB3DCA5#32, 0xBEB554EC#32, 0xBEB6CCC3#32,
    0xBEB8442A#32, 0xBEB9BB1E#32, 0xBEBB31A0#32, 0xBEBCA7AF#32, 0xBEBE1D4A#32, 0xBEBF926F#32, 0xBEC1071E#32, 0xBEC27B55#32]

/-- SCOS[640..703] (rule R136). -/
def scosPart10 : List Word :=
  [0xBEC3EF15#32, 0xBEC5625C#32, 0xBEC6D529#32, 0xBEC8477C#32, 0xBEC9B953#32, 0xBECB2AAE#32, 0xBECC9B8B#32, 0xBECE0BEA#32,
    0xBECF7BCA#32, 0xBED0EB2A#32, 0xBED25A09#32, 0xBED3C867#32, 0xBED53641#32, 0xBED6A399#32, 0xBED8106B#32, 0xBED97CB9#32,
    0xBEDAE880#32, 0xBEDC53C1#32, 0xBEDDBE79#32, 0xBEDF28A9#32, 0xBEE0924F#32, 0xBEE1FB6A#32, 0xBEE363FA#32, 0xBEE4CBFE#32,
    0xBEE63375#32, 0xBEE79A5D#32, 0xBEE900B7#32, 0xBEEA6681#32, 0xBEEBCBBB#32, 0xBEED3063#32, 0xBEEE9479#32, 0xBEEFF7FB#32,
    0xBEF15AEA#32, 0xBEF2BD43#32, 0xBEF41F07#32, 0xBEF58035#32, 0xBEF6E0CB#32, 0xBEF840C8#32, 0xBEF9A02D#32, 0xBEFAFEF7#32,
    0xBEFC5D27#32, 0xBEFDBABB#32, 0xBEFF17B2#32, 0xBF003A06#32, 0xBF00E7E4#32, 0xBF019573#32, 0xBF0242B1#32, 0xBF02EF9F#32,
    0xBF039C3D#32, 0xBF044889#32, 0xBF04F484#32, 0xBF05A02C#32, 0xBF064B82#32, 0xBF06F686#32, 0xBF07A136#32, 0xBF084B92#32,
    0xBF08F59B#32, 0xBF099F4E#32, 0xBF0A48AD#32, 0xBF0AF1B7#32, 0xBF0B9A6B#32, 0xBF0C42C9#32, 0xBF0CEAD0#32, 0xBF0D9281#32]

/-- SCOS[704..767] (rule R136). -/
def scosPart11 : List Word :=
  [0xBF0E39DA#32, 0xBF0EE0DB#32, 0xBF0F8784#32, 0xBF102DD5#32, 0xBF10D3CD#32, 0xBF11796B#32, 0xBF121EB0#32, 0xBF12C39A#32,
    0xBF13682A#32, 0xBF140C5F#32, 0xBF14B039#32, 0xBF1553B7#32, 0xBF15F6D9#32, 0xBF16999F#32, 0xBF173C07#32, 0xBF17DE12#32,
    0xBF187FC0#32, 0xBF19210F#32, 0xBF19C200#32, 0xBF1A6293#32, 0xBF1B02C6#32, 0xBF1BA299#32, 0xBF1C420C#32, 0xBF1CE11F#32,
    0xBF1D7FD1#32, 0xBF1E1E22#32, 0xBF1EBC12#32, 0xBF1F599F#32, 0xBF1FF6CB#32, 0xBF209393#32, 0xBF212FF9#32, 0xBF21CBFB#32,
    0xBF226799#32, 0xBF2302D3#32, 0xBF239DA9#32, 0xBF24381A#32, 0xBF24D225#32, 0xBF256BCB#32, 0xBF26050A#32, 0xBF269DE3#32,
    0xBF273656#32, 0xBF27CE61#32, 0xBF286605#32, 0xBF28FD41#32, 0xBF299415#32, 0xBF2A2A80#32, 0xBF2AC082#32, 0xBF2B561B#32,
    0xBF2BEB4A#32, 0xBF2C800F#32, 0xBF2D1469#32, 0xBF2DA859#32, 0xBF2E3BDE#32, 0xBF2ECEF7#32, 0xBF2F61A5#32, 0xBF2FF3E6#32,
    0xBF3085BB#32, 0xBF311722#32, 0xBF31A81D#32, 0xBF3238AA#32, 0xBF32C8C9#32, 0xBF33587A#32, 0xBF33E7BC#32, 0xBF34768F#32]

/-- SCOS[768..831] (rule R136). -/
def scosPart12 : List Word :=
  [0xBF3504F3#32, 0xBF3592E7#32, 0xBF36206C#32, 0xBF36AD7F#32, 0xBF373A23#32, 0xBF37C655#32, 0xBF385216#32, 0xBF38DD65#32,
    0xBF396842#32, 0xBF39F2AC#32, 0xBF3A7CA4#32, 0xBF3B0629#32, 0xBF3B8F3B#32, 0xBF3C17D9#32, 0xBF3CA003#32, 0xBF3D27B8#32,
    0xBF3DAEF9#32, 0xBF3E35C5#32, 0xBF3EBC1B#32, 0xBF3F41FC#32, 0xBF3FC767#32, 0xBF404C5C#32, 0xBF40D0DA#32, 0xBF4154E1#32,
    0xBF41D870#32, 0xBF425B89#32, 0xBF42DE29#32, 0xBF436051#32, 0xBF43E200#32, 0xBF446337#32, 0xBF44E3F5#32, 0xBF456439#32,
    0xBF45E403#32, 0xBF466354#32, 0xBF46E22A#32, 0xBF476085#32, 0xBF47DE65#32, 0xBF485BCA#32, 0xBF48D8B3#32, 0xBF495521#32,
    0xBF49D112#32, 0xBF4A4C87#32, 0xBF4AC77F#32, 0xBF4B41FA#32, 0xBF4BBBF8#32, 0xBF4C3578#32, 0xBF4CAE79#32, 0xBF4D26FD#32,
    0xBF4D9F02#32, 0xBF4E1689#32, 0xBF4E8D90#32, 0xBF4F0417#32, 0xBF4F7A1F#32, 0xBF4FEFA8#32, 0xBF5064AF#32, 0xBF50D937#32,
    0xBF514D3D#32, 0xBF51C0C2#32, 0xBF5233C6#32, 0xBF52A649#32, 0xBF531849#32, 0xBF5389C7#32, 0xBF53FAC3#32, 0xBF546B3B#32]

/-- SCOS[832..895] (rule R136). -/
def scosPart13 : List Word :=
  [0xBF54DB31#32, 0xBF554AA4#32, 0xBF55B993#32, 0xBF5627FE#32, 0xBF5695E5#32, 0xBF570348#32, 0xBF577026#32, 0xBF57DC7F#32,
    0xBF584853#32, 0xBF58B3A1#32, 0xBF591E6A#32, 0xBF5988AD#32, 0xBF59F26A#32, 0xBF5A5BA0#32, 0xBF5AC450#32, 0xBF5B2C79#32,
    0xBF5B941A#32, 0xBF5BFB34#32, 0xBF5C61C7#32, 0xBF5CC7D1#32, 0xBF5D2D53#32, 0xBF5D924D#32, 0xBF5DF6BE#32, 0xBF5E5AA6#32,
    0xBF5EBE05#32, 0xBF5F20DB#32, 0xBF5F8327#32, 0xBF5FE4E9#32, 0xBF604621#32, 0xBF60A6CF#32, 0xBF6106F2#32, 0xBF61668A#32,
    0xBF61C598#32, 0xBF62241A#32, 0xBF628210#32, 0xBF62DF7B#32, 0xBF633C5A#32, 0xBF6398AC#32, 0xBF63F473#32, 0xBF644FAC#32,
    0xBF64AA59#32, 0xBF650479#32, 0xBF655E0B#32, 0xBF65B710#32, 0xBF660F88#32, 0xBF666771#32, 0xBF66BECC#32, 0xBF671599#32,
    0xBF676BD8#32, 0xBF67C187#32, 0xBF6816A8#32, 0xBF686B39#32, 0xBF68BF3C#32, 0xBF6912AE#32, 0xBF696591#32, 0xBF69B7E4#32,
    0xBF6A09A7#32, 0xBF6A5AD9#32, 0xBF6AAB7B#32, 0xBF6AFB8C#32, 0xBF6B4B0C#32, 0xBF6B99FB#32, 0xBF6BE858#32, 0xBF6C3624#32]

/-- SCOS[896..959] (rule R136). -/
def scosPart14 : List Word :=
  [0xBF6C835E#32, 0xBF6CD007#32, 0xBF6D1C1D#32, 0xBF6D67A1#32, 0xBF6DB293#32, 0xBF6DFCF2#32, 0xBF6E46BE#32, 0xBF6E8FF8#32,
    0xBF6ED89E#32, 0xBF6F20B0#32, 0xBF6F6830#32, 0xBF6FAF1B#32, 0xBF6FF573#32, 0xBF703B37#32, 0xBF708066#32, 0xBF70C501#32,
    0xBF710908#32, 0xBF714C7A#32, 0xBF718F57#32, 0xBF71D19F#32, 0xBF721352#32, 0xBF725470#32, 0xBF7294F8#32, 0xBF72D4EB#32,
    0xBF731447#32, 0xBF73530E#32, 0xBF73913F#32, 0xBF73CED9#32, 0xBF740BDD#32, 0xBF74484B#32, 0xBF748422#32, 0xBF74BF62#32,
    0xBF74FA0B#32, 0xBF75341D#32, 0xBF756D97#32, 0xBF75A67B#32, 0xBF75DEC6#32, 0xBF76167A#32, 0xBF764D97#32, 0xBF76841B#32,
    0xBF76BA07#32, 0xBF76EF5B#32, 0xBF772417#32, 0xBF77583A#32, 0xBF778BC5#32, 0xBF77BEB7#32, 0xBF77F110#32, 0xBF7822D1#32,
    0xBF7853F8#32, 0xBF788486#32, 0xBF78B47B#32, 0xBF78E3D6#32, 0xBF791298#32, 0xBF7940C0#32, 0xBF796E4E#32, 0xBF799B43#32,
    0xBF79C79D#32, 0xBF79F35E#32, 0xBF7A1E84#32, 0xBF7A4910#32, 0xBF7A7302#32, 0xBF7A9C59#32, 0xBF7AC516#32, 0xBF7AED37#32]

/-- SCOS[960..1023] (rule R136). -/
def scosPart15 : List Word :=
  [0xBF7B14BE#32, 0xBF7B3BAB#32, 0xBF7B61FC#32, 0xBF7B87B2#32, 0xBF7BACCD#32, 0xBF7BD14D#32, 0xBF7BF531#32, 0xBF7C187A#32,
    0xBF7C3B28#32, 0xBF7C5D3A#32, 0xBF7C7EB0#32, 0xBF7C9F8A#32, 0xBF7CBFC9#32, 0xBF7CDF6C#32, 0xBF7CFE73#32, 0xBF7D1CDD#32,
    0xBF7D3AAC#32, 0xBF7D57DE#32, 0xBF7D7474#32, 0xBF7D906E#32, 0xBF7DABCC#32, 0xBF7DC68C#32, 0xBF7DE0B1#32, 0xBF7DFA38#32,
    0xBF7E1324#32, 0xBF7E2B72#32, 0xBF7E4323#32, 0xBF7E5A38#32, 0xBF7E70B0#32, 0xBF7E868B#32, 0xBF7E9BC9#32, 0xBF7EB069#32,
    0xBF7EC46D#32, 0xBF7ED7D4#32, 0xBF7EEA9D#32, 0xBF7EFCC9#32, 0xBF7F0E58#32, 0xBF7F1F49#32, 0xBF7F2F9D#32, 0xBF7F3F54#32,
    0xBF7F4E6D#32, 0xBF7F5CE9#32, 0xBF7F6AC7#32, 0xBF7F7808#32, 0xBF7F84AB#32, 0xBF7F90B1#32, 0xBF7F9C18#32, 0xBF7FA6E3#32,
    0xBF7FB10F#32, 0xBF7FBA9E#32, 0xBF7FC38F#32, 0xBF7FCBE2#32, 0xBF7FD397#32, 0xBF7FDAAF#32, 0xBF7FE129#32, 0xBF7FE705#32,
    0xBF7FEC43#32, 0xBF7FF0E3#32, 0xBF7FF4E6#32, 0xBF7FF84A#32, 0xBF7FFB11#32, 0xBF7FFD39#32, 0xBF7FFEC4#32, 0xBF7FFFB1#32]

/-- SCOS (rules R134, R136). -/
def scosTable : List Word :=
  scosPart0 ++ (scosPart1 ++ (scosPart2 ++ (scosPart3 ++ (scosPart4 ++ (scosPart5 ++ (scosPart6 ++ (scosPart7 ++ (
  scosPart8 ++ (scosPart9 ++ (scosPart10 ++ (scosPart11 ++ (scosPart12 ++ (scosPart13 ++ (scosPart14 ++ (scosPart15)))))))))))))))

/-- SSIN[0..63] (rule R136). -/
def ssinPart0 : List Word :=
  [0x00000000#32, 0x3B491DEC#32, 0x3BC91DEC#32, 0x3C16D671#32, 0x3C49098D#32, 0x3C7B551B#32, 0x3C96C8DD#32, 0x3CAFEBA2#32,
    0x3CC9098D#32, 0x3CE22B07#32, 0x3CFB48E2#32, 0x3D0A34D4#32, 0x3D16C3C5#32, 0x3D235197#32, 0x3D2FDFFD#32, 0x3D3C6D7E#32,
    0x3D48FB8B#32, 0x3D5587A5#32, 0x3D6214F4#32, 0x3D6EA00F#32, 0x3D7B2BD7#32, 0x3D83DB22#32, 0x3D8A2038#32, 0x3D9064C0#32,
    0x3D96A93A#32, 0x3D9CED0A#32, 0x3DA330A9#32, 0x3DA973EA#32, 0x3DAFB67C#32, 0x3DB5F8F7#32, 0x3DBC3AB0#32, 0x3DC27C0D#32,
    0x3DC8BD40#32, 0x3DCEFDD6#32, 0x3DD53D90#32, 0x3DDB7D16#32, 0x3DE1BC23#32, 0x3DE7FA9F#32, 0x3DEE3894#32, 0x3DF475A9#32,
    0x3DFAB250#32, 0x3E007758#32, 0x3E0394FB#32, 0x3E06B276#32, 0x3E09CF72#32, 0x3E0CEC4F#32, 0x3E1008C7#32, 0x3E1324D3#32,
    0x3E164088#32, 0x3E195BEB#32, 0x3E1C76D9#32, 0x3E1F9173#32, 0x3E22ABBE#32, 0x3E25C599#32, 0x3E28DEFE#32, 0x3E2BF800#32,
    0x3E2F10A3#32, 0x3E3228D6#32, 0x3E35409E#32, 0x3E3857EB#32, 0x3E3B6ECD#32, 0x3E3E8540#32, 0x3E419B32#32, 0x3E44B0B6#32]

/-- SSIN[64..127] (rule R136). -/
def ssinPart1 : List Word :=
  [0x3E47C5CF#32, 0x3E4ADA5A#32, 0x3E4DEE54#32, 0x3E5101F4#32, 0x3E5414FA#32, 0x3E572794#32, 0x3E5A399F#32, 0x3E5D4B19#32,
    0x3E605C1B#32, 0x3E636C7B#32, 0x3E667C6D#32, 0x3E698BB7#32, 0x3E6C9A7B#32, 0x3E6FA8B4#32, 0x3E72B647#32, 0x3E75C35A#32,
    0x3E78CFCA#32, 0x3E7BDB9C#32, 0x3E7EE6E6#32, 0x3E80F8C2#32, 0x3E827DC3#32, 0x3E840274#32, 0x3E8586D1#32, 0x3E870ADC#32,
    0x3E888E93#32, 0x3E8A11F7#32, 0x3E8B9503#32, 0x3E8D17C4#32, 0x3E8E9A23#32, 0x3E901C28#32, 0x3E919DDF#32, 0x3E931F33#32,
    0x3E94A030#32, 0x3E9620D0#32, 0x3E97A115#32, 0x3E9920FE#32, 0x3E9AA088#32, 0x3E9C1FB1#32, 0x3E9D9E77#32, 0x3E9F1CDF#32,
    0x3EA09AE8#32, 0x3EA21886#32, 0x3EA395C5#32, 0x3EA5129D#32, 0x3EA68F16#32, 0x3EA80B21#32, 0x3EA986C6#32, 0x3EAB0200#32,
    0x3EAC7CD6#32, 0x3EADF741#32, 0x3EAF713A#32, 0x3EB0EAC9#32, 0x3EB263EF#32, 0x3EB3DCA7#32, 0x3EB554EB#32, 0x3EB6CCC5#32,
    0x3EB84428#32, 0x3EB9BB1D#32, 0x3EBB31A2#32, 0x3EBCA7B0#32, 0x3EBE1D49#32, 0x3EBF9271#32, 0x3EC1071E#32, 0x3EC27B55#32]

/-- SSIN[128..191] (rule R136). -/
def ssinPart2 : List Word :=
  [0x3EC3EF17#32, 0x3EC5625C#32, 0x3EC6D52B#32, 0x3EC8477B#32, 0x3EC9B951#32, 0x3ECB2AAC#32, 0x3ECC9B88#32, 0x3ECE0BE9#32,
    0x3ECF7BC7#32, 0x3ED0EB2A#32, 0x3ED25A0A#32, 0x3ED3C868#32, 0x3ED5363F#32, 0x3ED6A39B#32, 0x3ED8106A#32, 0x3ED97CBA#32,
    0x3EDAE87F#32, 0x3EDC53C2#32, 0x3EDDBE7A#32, 0x3EDF28A8#32, 0x3EE0924E#32, 0x3EE1FB6A#32, 0x3EE363FC#32, 0x3EE4CBFC#32,
    0x3EE63375#32, 0x3EE79A5F#32, 0x3EE900B6#32, 0x3EEA6683#32, 0x3EEBCBB9#32, 0x3EED3063#32, 0x3EEE9479#32, 0x3EEFF7F9#32,
    0x3EF15AE7#32, 0x3EF2BD44#32, 0x3EF41F06#32, 0x3EF58034#32, 0x3EF6E0CB#32, 0x3EF840C8#32, 0x3EF9A02D#32, 0x3EFAFEF7#32,
    0x3EFC5D28#32, 0x3EFDBABC#32, 0x3EFF17B3#32, 0x3F003A06#32, 0x3F00E7E5#32, 0x3F019573#32, 0x3F0242B1#32, 0x3F02EFA0#32,
    0x3F039C3D#32, 0x3F044888#32, 0x3F04F483#32, 0x3F05A02D#32, 0x3F064B83#32, 0x3F06F686#32, 0x3F07A136#32, 0x3F084B93#32,
    0x3F08F59B#32, 0x3F099F4E#32, 0x3F0A48AD#32, 0x3F0AF1B7#32, 0x3F0B9A6B#32, 0x3F0C42C9#32, 0x3F0CEAD0#32, 0x3F0D9280#32]

/-- SSIN[192..255] (rule R136). -/
def ssinPart3 : List Word :=
  [0x3F0E39DA#32, 0x3F0EE0DB#32, 0x3F0F8784#32, 0x3F102DD5#32, 0x3F10D3CC#32, 0x3F11796A#32, 0x3F121EB1#32, 0x3F12C39B#32,
    0x3F13682A#32, 0x3F140C5F#32, 0x3F14B03A#32, 0x3F1553B7#32, 0x3F15F6DA#32, 0x3F16999F#32, 0x3F173C07#32, 0x3F17DE12#32,
    0x3F187FC0#32, 0x3F192110#32, 0x3F19C201#32, 0x3F1A6292#32, 0x3F1B02C5#32, 0x3F1BA299#32, 0x3F1C420C#32, 0x3F1CE11F#32,
    0x3F1D7FD2#32, 0x3F1E1E22#32, 0x3F1EBC12#32, 0x3F1F599F#32, 0x3F1FF6CB#32, 0x3F209393#32, 0x3F212FF8#32, 0x3F21CBFB#32,
    0x3F226799#32, 0x3F2302D3#32, 0x3F239DA9#32, 0x3F24381A#32, 0x3F24D225#32, 0x3F256BCA#32, 0x3F26050A#32, 0x3F269DE3#32,
    0x3F273656#32, 0x3F27CE61#32, 0x3F286605#32, 0x3F28FD40#32, 0x3F299415#32, 0x3F2A2A80#32, 0x3F2AC082#32, 0x3F2B561A#32,
    0x3F2BEB4A#32, 0x3F2C800F#32, 0x3F2D1469#32, 0x3F2DA859#32, 0x3F2E3BDE#32, 0x3F2ECEF8#32, 0x3F2F61A5#32, 0x3F2FF3E6#32,
    0x3F3085BA#32, 0x3F311722#32, 0x3F31A81D#32, 0x3F3238AA#32, 0x3F32C8C9#32, 0x3F33587B#32, 0x3F33E7BC#32, 0x3F347690#32]

/-- SSIN[256..319] (rule R136). -/
def ssinPart4 : List Word :=
  [0x3F3504F3#32, 0x3F3592E8#32, 0x3F36206C#32, 0x3F36AD80#32, 0x3F373A23#32, 0x3F37C655#32, 0x3F385216#32, 0x3F38DD65#32,
    0x3F396841#32, 0x3F39F2AC#32, 0x3F3A7CA4#32, 0x3F3B062A#32, 0x3F3B8F3B#32, 0x3F3C17D9#32, 0x3F3CA003#32, 0x3F3D27B8#32,
    0x3F3DAEF9#32, 0x3F3E35C5#32, 0x3F3EBC1B#32, 0x3F3F41FC#32, 0x3F3FC766#32, 0x3F404C5B#32, 0x3F40D0DA#32, 0x3F4154E1#32,
    0x3F41D870#32, 0x3F425B89#32, 0x3F42DE29#32, 0x3F436051#32, 0x3F43E200#32, 0x3F446337#32, 0x3F44E3F5#32, 0x3F45643A#32,
    0x3F45E403#32, 0x3F466354#32, 0x3F46E22A#32, 0x3F476085#32, 0x3F47DE65#32, 0x3F485BCA#32, 0x3F48D8B4#32, 0x3F495521#32,
    0x3F49D113#32, 0x3F4A4C87#32, 0x3F4AC77F#32, 0x3F4B41FA#32, 0x3F4BBBF7#32, 0x3F4C3577#32, 0x3F4CAE7A#32, 0x3F4D26FE#32,
    0x3F4D9F02#32, 0x3F4E1689#32, 0x3F4E8D90#32, 0x3F4F0417#32, 0x3F4F7A20#32, 0x3F4FEFA8#32, 0x3F5064B0#32, 0x3F50D937#32,
    0x3F514D3E#32, 0x3F51C0C3#32, 0x3F5233C6#32, 0x3F52A649#32, 0x3F531849#32, 0x3F5389C7#32, 0x3F53FAC3#32, 0x3F546B3C#32]

/-- SSIN[320..383] (rule R136). -/
def ssinPart5 : List Word :=
  [0x3F54DB31#32, 0x3F554AA4#32, 0x3F55B993#32, 0x3F5627FD#32, 0x3F5695E5#32, 0x3F570347#32, 0x3F577026#32, 0x3F57DC7F#32,
    0x3F584853#32, 0x3F58B3A1#32, 0x3F591E6A#32, 0x3F5988AD#32, 0x3F59F26A#32, 0x3F5A5BA0#32, 0x3F5AC450#32, 0x3F5B2C79#32,
    0x3F5B941A#32, 0x3F5BFB34#32, 0x3F5C61C7#32, 0x3F5CC7D1#32, 0x3F5D2D53#32, 0x3F5D924D#32, 0x3F5DF6BE#32, 0x3F5E5AA6#32,
    0x3F5EBE05#32, 0x3F5F20DB#32, 0x3F5F8327#32, 0x3F5FE4E9#32, 0x3F604621#32, 0x3F60A6CE#32, 0x3F6106F2#32, 0x3F61668A#32,
    0x3F61C598#32, 0x3F622419#32, 0x3F628210#32, 0x3F62DF7B#32, 0x3F633C5A#32, 0x3F6398AD#32, 0x3F63F473#32, 0x3F644FAC#32,
    0x3F64AA59#32, 0x3F650479#32, 0x3F655E0B#32, 0x3F65B710#32, 0x3F660F87#32, 0x3F666771#32, 0x3F66BECC#32, 0x3F671599#32,
    0x3F676BD8#32, 0x3F67C187#32, 0x3F6816A8#32, 0x3F686B39#32, 0x3F68BF3C#32, 0x3F6912AE#32, 0x3F696591#32, 0x3F69B7E4#32,
    0x3F6A09A7#32, 0x3F6A5AD9#32, 0x3F6AAB7B#32, 0x3F6AFB8B#32, 0x3F6B4B0C#32, 0x3F6B99FA#32, 0x3F6BE858#32, 0x3F6C3624#32]

/-- SSIN[384..447] (rule R136). -/
def ssinPart6 : List Word :=
  [0x3F6C835F#32, 0x3F6CD007#32, 0x3F6D1C1D#32, 0x3F6D67A2#32, 0x3F6DB293#32, 0x3F6DFCF2#32, 0x3F6E46BF#32, 0x3F6E8FF8#32,
    0x3F6ED89D#32, 0x3F6F20B1#32, 0x3F6F6830#32, 0x3F6FAF1B#32, 0x3F6FF573#32, 0x3F703B37#32, 0x3F708066#32, 0x3F70C501#32,
    0x3F710908#32, 0x3F714C7A#32, 0x3F718F57#32, 0x3F71D1A0#32, 0x3F721352#32, 0x3F725470#32, 0x3F7294F8#32, 0x3F72D4EB#32,
    0x3F731447#32, 0x3F73530E#32, 0x3F73913F#32, 0x3F73CED9#32, 0x3F740BDD#32, 0x3F74484B#32, 0x3F748421#32, 0x3F74BF62#32,
    0x3F74FA0B#32, 0x3F75341C#32, 0x3F756D98#32, 0x3F75A67B#32, 0x3F75DEC6#32, 0x3F76167A#32, 0x3F764D97#32, 0x3F76841B#32,
    0x3F76BA07#32, 0x3F76EF5B#32, 0x3F772417#32, 0x3F77583A#32, 0x3F778BC5#32, 0x3F77BEB7#32, 0x3F77F111#32, 0x3F7822D1#32,
    0x3F7853F8#32, 0x3F788486#32, 0x3F78B47B#32, 0x3F78E3D6#32, 0x3F791298#32, 0x3F7940C0#32, 0x3F796E4E#32, 0x3F799B43#32,
    0x3F79C79D#32, 0x3F79F35E#32, 0x3F7A1E84#32, 0x3F7A4910#32, 0x3F7A7302#32, 0x3F7A9C59#32, 0x3F7AC516#32, 0x3F7AED37#32]

/-- SSIN[448..511] (rule R136). -/
def ssinPart7 : List Word :=
  [0x3F7B14BE#32, 0x3F7B3BAB#32, 0x3F7B61FC#32, 0x3F7B87B2#32, 0x3F7BACCD#32, 0x3F7BD14D#32, 0x3F7BF532#32, 0x3F7C187A#32,
    0x3F7C3B28#32, 0x3F7C5D3A#32, 0x3F7C7EB0#32, 0x3F7C9F8A#32, 0x3F7CBFC9#32, 0x3F7CDF6C#32, 0x3F7CFE73#32, 0x3F7D1CDD#32,
    0x3F7D3AAC#32, 0x3F7D57DF#32, 0x3F7D7474#32, 0x3F7D906E#32, 0x3F7DABCC#32, 0x3F7DC68D#32, 0x3F7DE0B1#32, 0x3F7DFA38#32,
    0x3F7E1324#32, 0x3F7E2B72#32, 0x3F7E4323#32, 0x3F7E5A38#32, 0x3F7E70B0#32, 0x3F7E868B#32, 0x3F7E9BC9#32, 0x3F7EB06A#32,
    0x3F7EC46D#32, 0x3F7ED7D4#32, 0x3F7EEA9D#32, 0x3F7EFCC9#32, 0x3F7F0E58#32, 0x3F7F1F49#32, 0x3F7F2F9E#32, 0x3F7F3F54#32,
    0x3F7F4E6D#32, 0x3F7F5CE9#32, 0x3F7F6AC8#32, 0x3F7F7808#32, 0x3F7F84AB#32, 0x3F7F90B1#32, 0x3F7F9C19#32, 0x3F7FA6E2#32,
    0x3F7FB10F#32, 0x3F7FBA9E#32, 0x3F7FC38F#32, 0x3F7FCBE2#32, 0x3F7FD398#32, 0x3F7FDAAF#32, 0x3F7FE129#32, 0x3F7FE705#32,
    0x3F7FEC43#32, 0x3F7FF0E3#32, 0x3F7FF4E6#32, 0x3F7FF84A#32, 0x3F7FFB11#32, 0x3F7FFD39#32, 0x3F7FFEC4#32, 0x3F7FFFB1#32]

/-- SSIN[512..575] (rule R136). -/
def ssinPart8 : List Word :=
  [0x3F800000#32, 0x3F7FFFB1#32, 0x3F7FFEC4#32, 0x3F7FFD39#32, 0x3F7FFB11#32, 0x3F7FF84A#32, 0x3F7FF4E6#32, 0x3F7FF0E3#32,
    0x3F7FEC43#32, 0x3F7FE705#32, 0x3F7FE129#32, 0x3F7FDAAF#32, 0x3F7FD398#32, 0x3F7FCBE2#32, 0x3F7FC38F#32, 0x3F7FBA9E#32,
    0x3F7FB10F#32, 0x3F7FA6E2#32, 0x3F7F9C19#32, 0x3F7F90B1#32, 0x3F7F84AB#32, 0x3F7F7808#32, 0x3F7F6AC8#32, 0x3F7F5CE9#32,
    0x3F7F4E6D#32, 0x3F7F3F54#32, 0x3F7F2F9E#32, 0x3F7F1F49#32, 0x3F7F0E58#32, 0x3F7EFCC9#32, 0x3F7EEA9D#32, 0x3F7ED7D4#32,
    0x3F7EC46D#32, 0x3F7EB06A#32, 0x3F7E9BC9#32, 0x3F7E868B#32, 0x3F7E70B0#32, 0x3F7E5A38#32, 0x3F7E4323#32, 0x3F7E2B72#32,
    0x3F7E1324#32, 0x3F7DFA38#32, 0x3F7DE0B1#32, 0x3F7DC68D#32, 0x3F7DABCC#32, 0x3F7D906E#32, 0x3F7D7474#32, 0x3F7D57DF#32,
    0x3F7D3AAC#32, 0x3F7D1CDD#32, 0x3F7CFE73#32, 0x3F7CDF6C#32, 0x3F7CBFC9#32, 0x3F7C9F8A#32, 0x3F7C7EB0#32, 0x3F7C5D3A#32,
    0x3F7C3B28#32, 0x3F7C187A#32, 0x3F7BF532#32, 0x3F7BD14D#32, 0x3F7BACCD#32, 0x3F7B87B2#32, 0x3F7B61FC#32, 0x3F7B3BAB#32]

/-- SSIN[576..639] (rule R136). -/
def ssinPart9 : List Word :=
  [0x3F7B14BE#32, 0x3F7AED37#32, 0x3F7AC516#32, 0x3F7A9C59#32, 0x3F7A7302#32, 0x3F7A4910#32, 0x3F7A1E84#32, 0x3F79F35E#32,
    0x3F79C79D#32, 0x3F799B43#32, 0x3F796E4E#32, 0x3F7940C0#32, 0x3F791298#32, 0x3F78E3D6#32, 0x3F78B47B#32, 0x3F788486#32,
    0x3F7853F8#32, 0x3F7822D1#32, 0x3F77F111#32, 0x3F77BEB7#32, 0x3F778BC5#32, 0x3F77583A#32, 0x3F772417#32, 0x3F76EF5B#32,
    0x3F76BA07#32, 0x3F76841B#32, 0x3F764D97#32, 0x3F76167A#32, 0x3F75DEC6#32, 0x3F75A67B#32, 0x3F756D98#32, 0x3F75341C#32,
    0x3F74FA0B#32, 0x3F74BF62#32, 0x3F748421#32, 0x3F74484B#32, 0x3F740BDD#32, 0x3F73CED9#32, 0x3F73913F#32, 0x3F73530E#32,
    0x3F731447#32, 0x3F72D4EB#32, 0x3F7294F8#32, 0x3F725470#32, 0x3F721352#32, 0x3F71D1A0#32, 0x3F718F57#32, 0x3F714C7A#32,
    0x3F710908#32, 0x3F70C501#32, 0x3F708066#32, 0x3F703B37#32, 0x3F6FF573#32, 0x3F6FAF1B#32, 0x3F6F6830#32, 0x3F6F20B1#32,
    0x3F6ED89D#32, 0x3F6E8FF8#32, 0x3F6E46BF#32, 0x3F6DFCF2#32, 0x3F6DB293#32, 0x3F6D67A2#32, 0x3F6D1C1D#32, 0x3F6CD007#32]

/-- SSIN[640..703] (rule R136). -/
def ssinPart10 : List Word :=
  [0x3F6C835F#32, 0x3F6C3624#32, 0x3F6BE858#32, 0x3F6B99FA#32, 0x3F6B4B0C#32, 0x3F6AFB8B#32, 0x3F6AAB7B#32, 0x3F6A5AD9#32,
    0x3F6A09A7#32, 0x3F69B7E4#32, 0x3F696591#32, 0x3F6912AE#32, 0x3F68BF3C#32, 0x3F686B39#32, 0x3F6816A8#32, 0x3F67C187#32,
    0x3F676BD8#32, 0x3F671599#32, 0x3F66BECC#32, 0x3F666771#32, 0x3F660F87#32, 0x3F65B710#32, 0x3F655E0B#32, 0x3F650479#32,
    0x3F64AA59#32, 0x3F644FAC#32, 0x3F63F473#32, 0x3F6398AD#32, 0x3F633C5A#32, 0x3F62DF7B#32, 0x3F628210#32, 0x3F622419#32,
    0x3F61C598#32, 0x3F61668A#32, 0x3F6106F2#32, 0x3F60A6CE#32, 0x3F604621#32, 0x3F5FE4E9#32, 0x3F5F8327#32, 0x3F5F20DB#32,
    0x3F5EBE05#32, 0x3F5E5AA6#32, 0x3F5DF6BE#32, 0x3F5D924D#32, 0x3F5D2D53#32, 0x3F5CC7D1#32, 0x3F5C61C7#32, 0x3F5BFB34#32,
    0x3F5B941A#32, 0x3F5B2C79#32, 0x3F5AC450#32, 0x3F5A5BA0#32, 0x3F59F26A#32, 0x3F5988AD#32, 0x3F591E6A#32, 0x3F58B3A1#32,
    0x3F584853#32, 0x3F57DC7F#32, 0x3F577026#32, 0x3F570347#32, 0x3F5695E5#32, 0x3F5627FD#32, 0x3F55B993#32, 0x3F554AA4#32]

/-- SSIN[704..767] (rule R136). -/
def ssinPart11 : List Word :=
  [0x3F54DB31#32, 0x3F546B3C#32, 0x3F53FAC3#32, 0x3F5389C7#32, 0x3F531849#32, 0x3F52A649#32, 0x3F5233C6#32, 0x3F51C0C3#32,
    0x3F514D3E#32, 0x3F50D937#32, 0x3F5064B0#32, 0x3F4FEFA8#32, 0x3F4F7A20#32, 0x3F4F0417#32, 0x3F4E8D90#32, 0x3F4E1689#32,
    0x3F4D9F02#32, 0x3F4D26FE#32, 0x3F4CAE7A#32, 0x3F4C3577#32, 0x3F4BBBF7#32, 0x3F4B41FA#32, 0x3F4AC77F#32, 0x3F4A4C87#32,
    0x3F49D113#32, 0x3F495521#32, 0x3F48D8B4#32, 0x3F485BCA#32, 0x3F47DE65#32, 0x3F476085#32, 0x3F46E22A#32, 0x3F466354#32,
    0x3F45E403#32, 0x3F45643A#32, 0x3F44E3F5#32, 0x3F446337#32, 0x3F43E200#32, 0x3F436051#32, 0x3F42DE29#32, 0x3F425B89#32,
    0x3F41D870#32, 0x3F4154E1#32, 0x3F40D0DA#32, 0x3F404C5B#32, 0x3F3FC766#32, 0x3F3F41FC#32, 0x3F3EBC1B#32, 0x3F3E35C5#32,
    0x3F3DAEF9#32, 0x3F3D27B8#32, 0x3F3CA003#32, 0x3F3C17D9#32, 0x3F3B8F3B#32, 0x3F3B062A#32, 0x3F3A7CA4#32, 0x3F39F2AC#32,
    0x3F396841#32, 0x3F38DD65#32, 0x3F385216#32, 0x3F37C655#32, 0x3F373A23#32, 0x3F36AD80#32, 0x3F36206C#32, 0x3F3592E8#32]

/-- SSIN[768..831] (rule R136). -/
def ssinPart12 : List Word :=
  [0x3F3504F3#32, 0x3F347690#32, 0x3F33E7BC#32, 0x3F33587B#32, 0x3F32C8C9#32, 0x3F3238AA#32, 0x3F31A81D#32, 0x3F311722#32,
    0x3F3085BA#32, 0x3F2FF3E6#32, 0x3F2F61A5#32, 0x3F2ECEF8#32, 0x3F2E3BDE#32, 0x3F2DA859#32, 0x3F2D1469#32, 0x3F2C800F#32,
    0x3F2BEB4A#32, 0x3F2B561A#32, 0x3F2AC082#32, 0x3F2A2A80#32, 0x3F299415#32, 0x3F28FD40#32, 0x3F286605#32, 0x3F27CE61#32,
    0x3F273656#32, 0x3F269DE3#32, 0x3F26050A#32, 0x3F256BCA#32, 0x3F24D225#32, 0x3F24381A#32, 0x3F239DA9#32, 0x3F2302D3#32,
    0x3F226799#32, 0x3F21CBFB#32, 0x3F212FF8#32, 0x3F209393#32, 0x3F1FF6CB#32, 0x3F1F599F#32, 0x3F1EBC12#32, 0x3F1E1E22#32,
    0x3F1D7FD2#32, 0x3F1CE11F#32, 0x3F1C420C#32, 0x3F1BA299#32, 0x3F1B02C5#32, 0x3F1A6292#32, 0x3F19C201#32, 0x3F192110#32,
    0x3F187FC0#32, 0x3F17DE12#32, 0x3F173C07#32, 0x3F16999F#32, 0x3F15F6DA#32, 0x3F1553B7#32, 0x3F14B03A#32, 0x3F140C5F#32,
    0x3F13682A#32, 0x3F12C39B#32, 0x3F121EB1#32, 0x3F11796A#32, 0x3F10D3CC#32, 0x3F102DD5#32, 0x3F0F8784#32, 0x3F0EE0DB#32]

/-- SSIN[832..895] (rule R136). -/
def ssinPart13 : List Word :=
  [0x3F0E39DA#32, 0x3F0D9280#32, 0x3F0CEAD0#32, 0x3F0C42C9#32, 0x3F0B9A6B#32, 0x3F0AF1B7#32, 0x3F0A48AD#32, 0x3F099F4E#32,
    0x3F08F59B#32, 0x3F084B93#32, 0x3F07A136#32, 0x3F06F686#32, 0x3F064B83#32, 0x3F05A02D#32, 0x3F04F483#32, 0x3F044888#32,
    0x3F039C3D#32, 0x3F02EFA0#32, 0x3F0242B1#32, 0x3F019573#32, 0x3F00E7E5#32, 0x3F003A06#32, 0x3EFF17B3#32, 0x3EFDBABC#32,
    0x3EFC5D28#32, 0x3EFAFEF7#32, 0x3EF9A02D#32, 0x3EF840C8#32, 0x3EF6E0CB#32, 0x3EF58034#32, 0x3EF41F06#32, 0x3EF2BD44#32,
    0x3EF15AE7#32, 0x3EEFF7F9#32, 0x3EEE9479#32, 0x3EED3063#32, 0x3EEBCBB9#32, 0x3EEA6683#32, 0x3EE900B6#32, 0x3EE79A5F#32,
    0x3EE63375#32, 0x3EE4CBFC#32, 0x3EE363FC#32, 0x3EE1FB6A#32, 0x3EE0924E#32, 0x3EDF28A8#32, 0x3EDDBE7A#32, 0x3EDC53C2#32,
    0x3EDAE87F#32, 0x3ED97CBA#32, 0x3ED8106A#32, 0x3ED6A39B#32, 0x3ED5363F#32, 0x3ED3C868#32, 0x3ED25A0A#32, 0x3ED0EB2A#32,
    0x3ECF7BC7#32, 0x3ECE0BE9#32, 0x3ECC9B88#32, 0x3ECB2AAC#32, 0x3EC9B951#32, 0x3EC8477B#32, 0x3EC6D52B#32, 0x3EC5625C#32]

/-- SSIN[896..959] (rule R136). -/
def ssinPart14 : List Word :=
  [0x3EC3EF17#32, 0x3EC27B55#32, 0x3EC1071E#32, 0x3EBF9271#32, 0x3EBE1D49#32, 0x3EBCA7B0#32, 0x3EBB31A2#32, 0x3EB9BB1D#32,
    0x3EB84428#32, 0x3EB6CCC5#32, 0x3EB554EB#32, 0x3EB3DCA7#32, 0x3EB263EF#32, 0x3EB0EAC9#32, 0x3EAF713A#32, 0x3EADF741#32,
    0x3EAC7CD6#32, 0x3EAB0200#32, 0x3EA986C6#32, 0x3EA80B21#32, 0x3EA68F16#32, 0x3EA5129D#32, 0x3EA395C5#32, 0x3EA21886#32,
    0x3EA09AE8#32, 0x3E9F1CDF#32, 0x3E9D9E77#32, 0x3E9C1FB1#32, 0x3E9AA088#32, 0x3E9920FE#32, 0x3E97A115#32, 0x3E9620D0#32,
    0x3E94A030#32, 0x3E931F33#32, 0x3E919DDF#32, 0x3E901C28#32, 0x3E8E9A23#32, 0x3E8D17C4#32, 0x3E8B9503#32, 0x3E8A11F7#32,
    0x3E888E93#32, 0x3E870ADC#32, 0x3E8586D1#32, 0x3E840274#32, 0x3E827DC3#32, 0x3E80F8C2#32, 0x3E7EE6E6#32, 0x3E7BDB9C#32,
    0x3E78CFCA#32, 0x3E75C35A#32, 0x3E72B647#32, 0x3E6FA8B4#32, 0x3E6C9A7B#32, 0x3E698BB7#32, 0x3E667C6D#32, 0x3E636C7B#32,
    0x3E605C1B#32, 0x3E5D4B19#32, 0x3E5A399F#32, 0x3E572794#32, 0x3E5414FA#32, 0x3E5101F4#32, 0x3E4DEE54#32, 0x3E4ADA5A#32]

/-- SSIN[960..1023] (rule R136). -/
def ssinPart15 : List Word :=
  [0x3E47C5CF#32, 0x3E44B0B6#32, 0x3E419B32#32, 0x3E3E8540#32, 0x3E3B6ECD#32, 0x3E3857EB#32, 0x3E35409E#32, 0x3E3228D6#32,
    0x3E2F10A3#32, 0x3E2BF800#32, 0x3E28DEFE#32, 0x3E25C599#32, 0x3E22ABBE#32, 0x3E1F9173#32, 0x3E1C76D9#32, 0x3E195BEB#32,
    0x3E164088#32, 0x3E1324D3#32, 0x3E1008C7#32, 0x3E0CEC4F#32, 0x3E09CF72#32, 0x3E06B276#32, 0x3E0394FB#32, 0x3E007758#32,
    0x3DFAB250#32, 0x3DF475A9#32, 0x3DEE3894#32, 0x3DE7FA9F#32, 0x3DE1BC23#32, 0x3DDB7D16#32, 0x3DD53D90#32, 0x3DCEFDD6#32,
    0x3DC8BD40#32, 0x3DC27C0D#32, 0x3DBC3AB0#32, 0x3DB5F8F7#32, 0x3DAFB67C#32, 0x3DA973EA#32, 0x3DA330A9#32, 0x3D9CED0A#32,
    0x3D96A93A#32, 0x3D9064C0#32, 0x3D8A2038#32, 0x3D83DB22#32, 0x3D7B2BD7#32, 0x3D6EA00F#32, 0x3D6214F4#32, 0x3D5587A5#32,
    0x3D48FB8B#32, 0x3D3C6D7E#32, 0x3D2FDFFD#32, 0x3D235197#32, 0x3D16C3C5#32, 0x3D0A34D4#32, 0x3CFB48E2#32, 0x3CE22B07#32,
    0x3CC9098D#32, 0x3CAFEBA2#32, 0x3C96C8DD#32, 0x3C7B551B#32, 0x3C49098D#32, 0x3C16D671#32, 0x3BC91DEC#32, 0x3B491DEC#32]

/-- SSIN (rules R135, R136). -/
def ssinTable : List Word :=
  ssinPart0 ++ (ssinPart1 ++ (ssinPart2 ++ (ssinPart3 ++ (ssinPart4 ++ (ssinPart5 ++ (ssinPart6 ++ (ssinPart7 ++ (
  ssinPart8 ++ (ssinPart9 ++ (ssinPart10 ++ (ssinPart11 ++ (ssinPart12 ++ (ssinPart13 ++ (ssinPart14 ++ (ssinPart15)))))))))))))))

/-- The contents of the ROMs, at reset and forever after (rules R33, R130). -/
def romContents : Rom := { bcos := bcosTable, bsin := bsinTable, scos := scosTable, ssin := ssinTable }

/-- Entry q of a table. An index past the end is reached by no rule: every index is taken below the table's length. -/
def romWord (table : List Word) (q : Nat) : Word := table.getD q 0#32

end Sys2Proof.Machine
end

