-- ==== Sys2Proof/Machine/State.lean ====
section
/-! DEFINITION. The state of the block (rule R20), as plain data, the reasons a step can stop, and the state after
reset (rule R293). -/

namespace Sys2Proof.Machine

/-- The bank pair that holds the live data (rule R35). -/
inductive Role where
  | x | s
deriving DecidableEq, Repr

/-- STATUS.ERR (rule R260). -/
inductive Err where
  | none | shapeMismatch | invalidLength | allocationFailure | badCommand
deriving DecidableEq, Repr

/-- The four banks of words (rules R28, R31). -/
inductive BankId where
  | xr | xi | sr | si
deriving DecidableEq, Repr

/-- A bank as the words written since reset, (index, word), indices strictly rising. A word not listed has no value of
its own: reading it gives the free value of `Config.resetWord` (log 7). -/
abbrev Bank := List (Nat × Word)

/-- The canonical form of a bank: indices strictly rising. No listed word equals what an unlisted one reads as, since
an unlisted one has no value that a proof or an evaluation can see. -/
abbrev Bank.wf (b : Bank) : Prop := b.Pairwise (fun c d => c.1 < d.1)

/-- The whole state. STATUS.IRQ and the IRQ output are `done AND ie` at every point (rules R23, R38), CAP is a function
of `cfg` (rule R24), CMD has no storage (rule R27), and (div, sectionCount) are functions of `stage` and `nLat`
(rule R37): they are views in Machine/Flags.lean and Machine/Operands.lean, not fields. -/
structure State where
  /-- The parameters of the instance, which no step changes (rules R11 to R13, R20; log 1). -/
  cfg    : Params
  /-- CTRL.IE (rule R22). -/
  ie     : Bool
  /-- STATUS.BUSY (rule R23). -/
  busy   : Bool
  /-- STATUS.DONE (rule R23). -/
  done   : Bool
  /-- STATUS.DIR, the direction of the current or last accepted command (rules R23, R34). -/
  dir    : Dir
  /-- STATUS.ERR (rules R23, R260). -/
  err    : Err
  /-- STATUS.PHASE (rules R23, R36). -/
  phase  : Phase
  /-- STATUS.STAGE (rules R23, R36). -/
  stage  : BitVec 5
  /-- STATUS.OVR (rules R23, R262). -/
  ovr    : Bool
  /-- STATUS.ACCERR (rules R23, R262). -/
  accerr : Bool
  /-- LEN_RE (rule R25). -/
  lenRe  : Word
  /-- LEN_IM (rule R26). -/
  lenIm  : Word
  /-- XR (rule R28). -/
  xr     : Bank
  /-- XI (rule R28). -/
  xi     : Bank
  /-- SR (rule R31). -/
  sr     : Bank
  /-- SI (rule R31). -/
  si     : Bank
  /-- The trig ROMs (rule R33). -/
  rom    : Rom
  /-- N_lat (rule R34). -/
  nLat   : Nat
  /-- ROLE (rule R35). -/
  role   : Role
  /-- The cursor, the sections not yet transformed, rising (rule R36). -/
  cursor : List Nat
  /-- The model's own: the section choices of the coming BASE steps, used modulo the number of sections left; none
  left means the lowest section (rule R174; log 5). -/
  picks  : List Nat
  /-- The model's own: what the host and the reset input do next (rules R64, R88, R290; log 2). -/
  host   : List HostEvent
  /-- The model's own: the word the last read returned (rules R55, R89; log 6). -/
  rdata  : Word
  /-- The model's own: counts the steps that drew free values (rules R61, R107; log 10). -/
  draws  : Nat
  /-- The model's own: counts the resets, so that the banks are drawn anew at each (rule R291; log 10). -/
  epoch  : Nat
deriving DecidableEq, Repr

/-- Why the machine stops. -/
inductive Fault where
  /-- Raised by the sequencer's turn (Machine/Fetch.lean) when BUSY = 1 and PHASE = IDLE: no micro-operation is named
  and the spec gives none. No run reaches such a state (rules R23, R84). Safe: the model stops where the spec says
  nothing (log 17). -/
  | noMicroOp
deriving DecidableEq, Repr

/-- Why an instruction has no meaning. -/
inductive Refusal where
  /-- Raised by an arm of `exec` whose instruction has no meaning yet. Safe: nothing is claimed of it. -/
  | notModelled (mnemonic : String)
deriving DecidableEq, Repr

/-- The state after reset of a given instance (rule R293). The model's own fields take the values of log entries 2, 5,
6 and 10. -/
def State.resetOf (cfg : Params) : State where
  cfg := cfg
  ie := false
  busy := false
  done := false
  dir := .fwd
  err := .none
  phase := .idle
  stage := 0#5
  ovr := false
  accerr := false
  lenRe := 0#32
  lenIm := 0#32
  xr := []
  xi := []
  sr := []
  si := []
  rom := romContents
  nLat := 0
  role := .x
  cursor := []
  picks := []
  host := []
  rdata := 0#32
  draws := 0
  epoch := 0

/-- The machine right after reset (rule R293), for the instance of log entry 1. -/
def State.reset : State := State.resetOf Params.default

end Sys2Proof.Machine
end

