-- ==== Sys2Proof/Machine/Flags.lean ====
section
/-! DEFINITION. The host registers as words (rules R22 to R24, R27) and the write-1-to-clear of STATUS (rule R23). -/

namespace Sys2Proof.Machine

/-- STATUS.IRQ and the IRQ output: DONE AND CTRL.IE (rules R23, R38). -/
def State.irq (s : State) : Bool := s.done && s.ie

/-- The code of STATUS.DIR (rule R34). -/
def dirCode : Dir → BitVec 1
  | .fwd => 0#1
  | .inv => 1#1

/-- The code of STATUS.ERR (rule R260). -/
def errCode : Err → BitVec 4
  | .none => 0#4
  | .shapeMismatch => 1#4
  | .invalidLength => 2#4
  | .allocationFailure => 3#4
  | .badCommand => 4#4

/-- The code of CAP.BACKEND (rule R86). -/
def backendCode : Backend → BitVec 3
  | .scalar => 0#3
  | .vec4A => 1#3
  | .vec4B => 2#3
  | .vec4C => 3#3
  | .vec4D => 4#3
  | .vecArm => 5#3

/-- CTRL as a word: IE in bit 0, the rest reserved (rule R22). -/
def State.ctrlWord (s : State) : Word := 0#31 ++ BitVec.ofBool s.ie

/-- STATUS as a word (rule R23): from the top, reserved [31:26], ACCERR, OVR, reserved [23:17], STAGE [16:12],
PHASE [11:8], ERR [7:4], DIR, IRQ, DONE, BUSY. -/
def State.statusWord (s : State) : Word :=
  0#6 ++ BitVec.ofBool s.accerr ++ BitVec.ofBool s.ovr ++ 0#7 ++ s.stage ++ s.phase.code ++ errCode s.err
    ++ dirCode s.dir ++ BitVec.ofBool s.irq ++ BitVec.ofBool s.done ++ BitVec.ofBool s.busy

/-- CAP as a word (rule R24): from the top, LANES [31:24], 0, BACKEND [18:16], 0, LOG2NMAX [12:8], LOG2S [7:4],
LOG2B [3:0]. -/
def State.capWord (s : State) : Word :=
  BitVec.ofNat 8 s.cfg.lanes ++ 0#5 ++ backendCode s.cfg.backend ++ 0#3 ++ BitVec.ofNat 5 s.cfg.log2Nmax
    ++ BitVec.ofNat 4 Config.log2S ++ BitVec.ofNat 4 Config.log2B

/-- A write to CTRL: IE takes bit 0, the reserved bits are ignored (rules R22, R27, R56). -/
def State.writeCtrl (v : Word) (s : State) : State := { s with ie := v.getLsbD 0 }

/-- A write to STATUS: each of DONE, OVR and ACCERR whose bit is 1 is cleared, nothing else changes (rules R23, R56). -/
def State.writeStatus (v : Word) (s : State) : State :=
  { s with
    done := s.done && !v.getLsbD 1
    ovr := s.ovr && !v.getLsbD 24
    accerr := s.accerr && !v.getLsbD 25 }

end Sys2Proof.Machine
end

