-- ==== Sys2Proof/Machine/Trig.lean ====
section
/-! DEFINITION. The twiddle factors of the merge stages and of the base block (rules R132, R137 to R141), and the
directly computed cosine of the inverse (rule R139; log 12). -/

namespace Sys2Proof.Machine

/-- `pi * 2^128`, rounded down. -/
def piFixed : Nat := 0x3243f6a8885a308d313198a2e03707344

/-- The cosine series in nested form on numbers with 128 fraction bits: with `x2` the square of the angle,
`1 - x2/((2j+1)(2j+2)) * (1 - x2/((2j+3)(2j+4)) * (...))`, `n` levels deep from level j. -/
def cosSeries (x2 : Nat) : Nat → Nat → Nat
  | 0, _ => 1 <<< 128
  | n + 1, j => (1 <<< 128) - ((x2 * cosSeries x2 n (j + 1)) >>> 128) / ((2 * j + 1) * (2 * j + 2))

/-- `cos(pi*k/div) * 2^128` for `2k < div`, to within 2^10: the angle with 128 fraction bits, 24 levels of the series. -/
def cosFixed (k div : Nat) : Nat :=
  let x := piFixed * k / div
  cosSeries ((x * x) >>> 128) 24 0

/-- `InvCos(k, div) = RN32(cos(pi*k/div))` for `0 <= k < div` (rules R139, R141): exact +0 at the quarter turn, and
`cos(pi - theta) = -cos(theta)` beyond it. -/
def invCos (k div : Nat) : Fl :=
  bif (2 * k).beq div then Fl.zero
  else bif (2 * k).blt div then rn32 false (cosFixed k div <<< 149) (1 <<< 128)
  else rn32 true (cosFixed (div - k) div <<< 149) (1 <<< 128)

/-- The derived sine `fsqrt(fsub(1.0, fmul(c, c)))` (rules R135, R139). -/
def derivedSin (c : Fl) : Fl := fsqrt (fsub Fl.one (fmul c c))

/-- The sample index `q = floor(k*S/div)` (rule R137). -/
def sampleIndex (k div : Nat) : Nat := k * Config.S / div

/-- The forward twiddle `twF(k, div) = (SCOS[q], SSIN[q])` (rule R138). -/
def twF (rom : Rom) (k div : Nat) : Fl × Fl :=
  (Fl.ofWord (romWord rom.scos (sampleIndex k div)), Fl.ofWord (romWord rom.ssin (sampleIndex k div)))

/-- The inverse twiddle `twI(k, div)` (rule R139). -/
def twI (k div : Nat) : Fl × Fl := (invCos k div, derivedSin (invCos k div))

/-- The twiddle of a merge stage in a direction (rules R191, R192). -/
def twiddle (d : Dir) (rom : Rom) (k div : Nat) : Fl × Fl :=
  match d with
  | .fwd => twF rom k div
  | .inv => twI k div

/-- `(cos[n,k], sin[n,k])` of the base block, through the 32-entry ROMs (rule R132). -/
def baseTwiddle (rom : Rom) (n k : Nat) : Fl × Fl :=
  (Fl.ofWord (romWord rom.bcos (n * k % Config.B)), Fl.ofWord (romWord rom.bsin (n * k % Config.B)))

end Sys2Proof.Machine
end

