-- ==== Sys2Proof/Machine/Operands.lean ====
section
/-! DEFINITION. Where the operands of an instruction come from: the target of a host address (rules R51 to R54), the
derived quantities of a length (rules R14, R37), the permutation (rules R151, R152), the section a BASE step takes
(rule R174), and the words of a bank as values. -/

namespace Sys2Proof.Machine

/-- What an aligned host address selects (rules R51 to R54). -/
inductive Target where
  | ctrl | cmd | status | cap | lenRe | lenIm
  | re (i : Nat)
  | im (i : Nat)
deriving DecidableEq, Repr

/-- `addr[1:0] = 0` (rule R57). -/
def isAligned (a : Addr) : Bool := a.toNat % 4 == 0

/-- The register at a register offset (rules R51, R52). -/
def registerAt (n : Nat) : Option Target :=
  match n with
  | 0 => some .ctrl
  | 4 => some .cmd
  | 8 => some .status
  | 12 => some .cap
  | 16 => some .lenRe
  | 20 => some .lenIm
  | _ => none

/-- What an address selects: nothing when it is misaligned (rule R57), reserved (rule R58) or a window index at or above
NMAX (rules R53, R54). -/
def select (p : Params) (a : Addr) : Option Target :=
  let n := a.toNat
  if isAligned a = false then none
  else if n < 0x400000 then registerAt n
  else if n < 0x800000 then
    if (n - 0x400000) / 4 < p.nmax then some (.re ((n - 0x400000) / 4)) else none
  else if n < 0xC00000 then
    if (n - 0x800000) / 4 < p.nmax then some (.im ((n - 0x800000) / 4)) else none
  else none

/-- `sectionCount0 = N / B` (rule R14). -/
def sections (n : Nat) : Nat := n / Config.B

/-- `M = log2(N) - LOG2B`, the number of merge stages (rule R14). -/
def mergeStages (n : Nat) : Nat := n.log2 - Config.log2B

/-- `div = B * 2^STAGE` (rule R37). -/
def State.div (s : State) : Nat := Config.B <<< s.stage.toNat

/-- `sectionCount = N / div` (rule R37). -/
def State.sectionCount (s : State) : Nat := s.nLat / s.div

/-- `bitrev_L(s)`, the low L bits of s in reverse (rule R152). -/
def bitrev : Nat → Nat → Nat
  | 0, _ => 0
  | l + 1, s => (s % 2) <<< l + bitrev l (s / 2)

/-- The elements of a list at even positions, and those at odd positions (rule R151). -/
def evensOdds {α : Type} : List α → List α × List α
  | [] => ([], [])
  | x :: xs => (x :: (evensOdds xs).2, (evensOdds xs).1)

/-- The recursive even/odd splitting of rule R151, to a given depth (L levels split 2^L elements fully). -/
def splitTable {α : Type} : Nat → List α → List α
  | 0, xs => xs
  | l + 1, xs => splitTable l (evensOdds xs).1 ++ splitTable l (evensOdds xs).2

/-- The permutation table `P_sc` (rule R151). -/
def permTable (sc : Nat) : List Nat := splitTable sc.log2 (List.range sc)

/-- The source index of PERMUTE for a destination index i, `sc*slot + bitrev_L(section)` (rule R153). -/
def permuteSource (n i : Nat) : Nat :=
  sections n * (i % Config.B) + bitrev (sections n).log2 (i / Config.B)

/-- The section a BASE step takes from the cursor, the cursor without it, and the choices that are left: the next
choice, modulo the number of sections left, or the lowest section when no choice is left (rule R174; log 5). -/
def takeSection (cursor picks : List Nat) : Option (Nat × List Nat × List Nat) :=
  let j := picks.headD 0 % cursor.length
  match cursor[j]? with
  | none => none
  | some sec => some (sec, cursor.eraseIdx j, picks.tail)

/-- The real bank of a role (rule R35). -/
def Role.re : Role → BankId
  | .x => .xr
  | .s => .sr

/-- The imaginary bank of a role (rule R35). -/
def Role.im : Role → BankId
  | .x => .xi
  | .s => .si

/-- `other(X) = S`, `other(S) = X` (rule R190). -/
def Role.other : Role → Role
  | .x => .s
  | .s => .x

/-- A number for each bank, to tell the free values of different banks apart. -/
def BankId.code : BankId → Nat
  | .xr => 0
  | .xi => 1
  | .sr => 2
  | .si => 3

/-- A bank of the state. -/
def State.bank (s : State) : BankId → Bank
  | .xr => s.xr
  | .xi => s.xi
  | .sr => s.sr
  | .si => s.si

/-- The listed word of a bank at an index. -/
def bankLookup (i : Nat) : Bank → Option Word
  | [] => none
  | c :: cs => bif c.1.beq i then some c.2 else bankLookup i cs

/-- Word i of a bank: the word written there, or the free value of the current epoch (rules R28, R31, R291). -/
def State.readWord (s : State) (b : BankId) (i : Nat) : Word :=
  match bankLookup i (s.bank b) with
  | some w => w
  | none => Config.resetWord s.epoch b.code i

/-- The complex value at index i of the bank pair of a role. -/
def State.readPair (s : State) (r : Role) (i : Nat) : Fl × Fl :=
  (Fl.ofWord (s.readWord r.re i), Fl.ofWord (s.readWord r.im i))

end Sys2Proof.Machine
end

