-- ==== Sys2Proof/Machine/Ops.lean ====
section
/-! DEFINITION. The named operations over the state that the meanings share: writing the banks, accepting, refusing and
ending commands (rules R230, R231, R235, R239, R240, R242), the next micro-operation (rule R241), refusing an access
(rules R57, R58, R61) and reset (rule R293). -/

namespace Sys2Proof.Machine

/-- Replace one bank. -/
def State.setBank (b : BankId) (c : Bank) (s : State) : State :=
  match b with
  | .xr => { s with xr := c }
  | .xi => { s with xi := c }
  | .sr => { s with sr := c }
  | .si => { s with si := c }

/-- Words from index `lo` on as cells. -/
def cellsFrom : Nat → List Word → Bank
  | _, [] => []
  | lo, w :: ws => (lo, w) :: cellsFrom (lo + 1) ws

/-- A bank with the words at `lo, lo + 1, ...` replaced, in canonical form. -/
def bankSplice (lo : Nat) (ws : List Word) (b : Bank) : Bank :=
  b.filter (fun c => c.1.blt lo) ++ (cellsFrom lo ws ++ b.filter (fun c => (lo + ws.length).ble c.1))

/-- Write consecutive words of a bank, bit for bit. -/
def State.writeWords (b : BankId) (lo : Nat) (ws : List Word) (s : State) : State :=
  s.setBank b (bankSplice lo ws (s.bank b))

/-- Values as the words they are stored as from index i on: each NaN takes a pattern of its own (rule R107). -/
def storeWords (draw bank : Nat) : Nat → List Fl → List Word
  | _, [] => []
  | i, v :: vs => v.toWord (nanWord (Config.nanPattern draw bank i)) :: storeWords draw bank (i + 1) vs

/-- Write consecutive computed values to a bank. -/
def State.writeFls (b : BankId) (lo : Nat) (vs : List Fl) (s : State) : State :=
  s.writeWords b lo (storeWords s.draws b.code lo vs)

/-- Write consecutive computed complex values to the bank pair of a role, and move the draw counter on. -/
def State.writePairs (r : Role) (lo : Nat) (ps : List (Fl × Fl)) (s : State) : State :=
  let t := (s.writeFls r.re lo (ps.map Prod.fst)).writeFls r.im lo (ps.map Prod.snd)
  { t with draws := s.draws + 1 }

/-- A refused host access (rules R57, R58, R61). -/
def State.refuseAccess (s : State) : State := { s with accerr := true }

/-- A CMD write while BUSY = 1: dropped, OVR set (rule R242). -/
def State.overrun (s : State) : State := { s with ovr := true }

/-- Accepting a command of the given direction (rule R231). -/
def State.acceptCommand (d : Dir) (s : State) : State :=
  { s with
    busy := true
    done := false
    err := .none
    dir := d
    stage := 0#5
    phase := .validate
    cursor := [] }

/-- BadCommand: an illegal command word refused in the write itself (rule R235). -/
def State.refuseBadCommand (s : State) : State :=
  { s with
    err := .badCommand
    done := true
    stage := 0#5 }

/-- `raise <Error>` in VALIDATE: the command ends in the same step with its code (rules R239, R266). -/
def State.raiseError (e : Err) (s : State) : State :=
  { s with
    err := e
    busy := false
    done := true
    phase := .idle }

/-- A command that passed VALIDATE completes (rule R240). -/
def State.complete (s : State) : State :=
  { s with
    busy := false
    done := true
    phase := .idle }

/-- A word written to CMD (rule R230). -/
def State.commandWrite (v : Word) (s : State) : State :=
  if s.busy then s.overrun
  else if v = 0x00000001#32 then s.acceptCommand .fwd
  else if v = 0x00000002#32 then s.acceptCommand .inv
  else s.refuseBadCommand

/-- The BASE phase of a direction (rule R241). -/
def basePhase : Dir → Phase
  | .fwd => .baseFwd
  | .inv => .baseInv

/-- The MERGE phase of a direction (rule R241). -/
def mergePhase : Dir → Phase
  | .fwd => .mergeFwd
  | .inv => .mergeInv

/-- After COPYBACK, and at the end of Tail: NORMALIZE for an inverse command, else completion (rule R241). -/
def State.normalizeOrComplete (s : State) : State :=
  match s.dir with
  | .inv => { s with phase := .normalize }
  | .fwd => s.complete

/-- `Tail` of rule R241. -/
def State.tail (s : State) : State :=
  if s.stage.toNat < mergeStages s.nLat then { s with phase := mergePhase s.dir }
  else
    match s.role with
    | .s => { s with phase := .copyback }
    | .x => s.normalizeOrComplete

/-- Everything a reset does (rules R290, R291, R293): the registers and the sequencer take their reset values, the
banks are drawn anew, the ROMs and the instance stay; what is outside the block (the pending events, the word last
returned, the choices still to come) is not reset (log 20). -/
def State.afterReset (s : State) : State :=
  { State.resetOf s.cfg with
    rom := s.rom
    picks := s.picks
    host := s.host
    rdata := s.rdata
    draws := s.draws
    epoch := s.epoch + 1 }

end Sys2Proof.Machine
end

