-- ==== Sys2Proof/Machine/Base.lean ====
section
/-! DEFINITION. The meanings of BASE_FWD and BASE_INV (rules R170 to R175): the direct transform of one section. -/

namespace Sys2Proof.Machine

/-- The 32 rotated terms of output k of a section whose values are `xs`, from term n on (rules R171, R172). -/
def baseTermsFrom (d : Dir) (rom : Rom) (k : Nat) : Nat → List (Fl × Fl) → List (Fl × Fl)
  | _, [] => []
  | n, x :: xs =>
    rot d x.1 x.2 (baseTwiddle rom n k).1 (baseTwiddle rom n k).2 :: baseTermsFrom d rom k (n + 1) xs

/-- Output k of the direct transform of a section (rules R171, R172). -/
def baseOutput (d : Dir) (o : Order) (rom : Rom) (xs : List (Fl × Fl)) (k : Nat) : Fl × Fl :=
  let ts := baseTermsFrom d rom k 0 xs
  (reduce o (ts.map Prod.fst), reduce o (ts.map Prod.snd))

/-- The values of section `sec` of the scratch banks (rule R170). -/
def State.sectionValues (s : State) (sec : Nat) : List (Fl × Fl) :=
  (List.range Config.B).map (fun n => s.readPair .s (Config.B * sec + n))

/-- Transform section `sec` in place: all reads before any write (rules R171, R172). -/
def State.transformSection (d : Dir) (sec : Nat) (s : State) : State :=
  s.writePairs .s (Config.B * sec)
    ((List.range Config.B).map (baseOutput d (orderOf s.cfg.backend) s.rom (s.sectionValues sec)))

/-- One BASE step (rules R171, R172, R174): a section of the cursor is transformed and leaves the cursor; when the
cursor is empty the stage ends (rule R241). With no section left to take, which no run reaches, there is nothing to
transform and the stage ends (log 16). -/
def State.baseStep (d : Dir) (s : State) : State :=
  match takeSection s.cursor s.picks with
  | none => s.tail
  | some (sec, cursor, picks) =>
    let t := { s.transformSection d sec with cursor := cursor, picks := picks }
    if cursor = [] then t.tail else t

/-- BASE_FWD, one section (rule R171). -/
def execBaseFwd (s : State) : Host.Outcome State Fault Refusal := .next (s.baseStep .fwd)

/-- BASE_INV, one section (rule R172). -/
def execBaseInv (s : State) : Host.Outcome State Fault Refusal := .next (s.baseStep .inv)

end Sys2Proof.Machine
end

