-- ==== Sys2Proof/Machine/Bus.lean ====
section
/-! DEFINITION. The meanings of RD and WR, the two host accesses (rules R55 to R58, R61, R63). -/

namespace Sys2Proof.Machine

/-- A read of a window word: the word, or while BUSY = 1 a free value and ACCERR (rules R55, R61; log 9). -/
def State.readWindow (b : BankId) (i : Nat) (s : State) : State :=
  if s.busy then { s.refuseAccess with rdata := Config.busyWord s.draws, draws := s.draws + 1 }
  else { s with rdata := s.readWord b i }

/-- `MemRead(addr, 4)` (rule R55); the word returned is left in `rdata` (log 6). -/
def execRd (addr : Addr) (s : State) : Host.Outcome State Fault Refusal :=
  .next
    (match select s.cfg addr with
    | none => { s.refuseAccess with rdata := 0#32 }
    | some .ctrl => { s with rdata := s.ctrlWord }
    | some .cmd => { s with rdata := 0#32 }
    | some .status => { s with rdata := s.statusWord }
    | some .cap => { s with rdata := s.capWord }
    | some .lenRe => { s with rdata := s.lenRe }
    | some .lenIm => { s with rdata := s.lenIm }
    | some (.re i) => s.readWindow .xr i
    | some (.im i) => s.readWindow .xi i)

/-- `MemWrite(addr, 4, v)` (rule R56); a write to CMD is a command (rule R230). -/
def execWr (addr : Addr) (data : Word) (s : State) : Host.Outcome State Fault Refusal :=
  .next
    (match select s.cfg addr with
    | none => s.refuseAccess
    | some .ctrl => s.writeCtrl data
    | some .cmd => s.commandWrite data
    | some .status => s.writeStatus data
    | some .cap => s
    | some .lenRe => if s.busy then s.refuseAccess else { s with lenRe := data }
    | some .lenIm => if s.busy then s.refuseAccess else { s with lenIm := data }
    | some (.re i) => if s.busy then s.refuseAccess else s.writeWords .xr i [data]
    | some (.im i) => if s.busy then s.refuseAccess else s.writeWords .xi i [data])

end Sys2Proof.Machine
end

