-- ==== Sys2Proof/Machine/Command.lean ====
section
/-! DEFINITION. The meanings of the host commands FFT_FWD, FFT_INV, BADCMD (rules R230 to R235, R242) and of VALIDATE,
the first micro-operation of every command (rules R234, R236 to R239). -/

namespace Sys2Proof.Machine

/-- FFT_FWD written to CMD (rules R230 to R232): dropped with OVR while BUSY = 1, else accepted. -/
def execFftFwd (s : State) : Host.Outcome State Fault Refusal :=
  .next (if s.busy then s.overrun else s.acceptCommand .fwd)

/-- FFT_INV written to CMD (rules R230, R231, R233): dropped with OVR while BUSY = 1, else accepted. -/
def execFftInv (s : State) : Host.Outcome State Fault Refusal :=
  .next (if s.busy then s.overrun else s.acceptCommand .inv)

/-- An illegal word written to CMD (rules R83, R230, R235): dropped with OVR while BUSY = 1, whatever its fields, else
refused with BadCommand. -/
def execBadCmd (_rsv : BitVec 28) (_opc : BitVec 4) (s : State) : Host.Outcome State Fault Refusal :=
  .next (if s.busy then s.overrun else s.refuseBadCommand)

/-- `a = 0 or (a AND (a - 1)) != 0 or a < 32` (rules R234, R237). -/
def invalidLength (a : Word) : Bool := a == 0#32 || a &&& (a - 1#32) != 0#32 || a.toNat.blt Config.B

/-- VALIDATE (rule R234): the three checks in their order, then the length is latched. -/
def execValidate (s : State) : Host.Outcome State Fault Refusal :=
  .next
    (if s.lenRe ≠ s.lenIm then s.raiseError .shapeMismatch
    else if invalidLength s.lenRe then s.raiseError .invalidLength
    else if s.cfg.nmax < s.lenRe.toNat then s.raiseError .allocationFailure
    else { s with nLat := s.lenRe.toNat, role := .x, phase := .permute })

end Sys2Proof.Machine
end

