-- ==== Sys2Proof/Machine/Merge.lean ====
section
/-! DEFINITION. The meanings of MERGE_FWD and MERGE_INV (rules R190 to R196): one stage of butterflies. -/

namespace Sys2Proof.Machine

/-- The rotated upper operand `(wr, wi)` of the butterfly at offset k (rules R191, R192). -/
def butterflyW (d : Dir) (rom : Rom) (div k : Nat) (hi : Fl × Fl) : Fl × Fl :=
  rot d hi.1 hi.2 (twiddle d rom k div).1 (twiddle d rom k div).2

/-- The destination value at the lower index i of a butterfly. -/
def butterflyLo (lo w : Fl × Fl) : Fl × Fl := (fadd lo.1 w.1, fadd lo.2 w.2)

/-- The destination value at the upper index j of a butterfly. -/
def butterflyHi (lo w : Fl × Fl) : Fl × Fl := (fsub lo.1 w.1, fsub lo.2 w.2)

/-- The destination value at index m of a stage of half-size `div` over the source values `src`: the pair that holds m
spans `[start, start + 2*div)` and joins `i = start + k` with `j = i + div` (rules R190 to R192). -/
def mergeValue (d : Dir) (rom : Rom) (div : Nat) (src : Nat → Fl × Fl) (m : Nat) : Fl × Fl :=
  let start := m / (2 * div) * (2 * div)
  let k := m % div
  let w := butterflyW d rom div k (src (start + div + k))
  if m % (2 * div) < div then butterflyLo (src (start + k)) w else butterflyHi (src (start + k)) w

/-- One merge stage (rules R191, R192, R194): every word of the other bank pair below N is written from the live pair,
ROLE flips, STAGE counts one more, and after the last stage Tail follows (rule R241). -/
def State.mergeStep (d : Dir) (s : State) : State :=
  let vs := (List.range s.nLat).map (mergeValue d s.rom s.div (s.readPair s.role))
  let t := { s.writePairs s.role.other 0 vs with role := s.role.other, stage := s.stage + 1#5 }
  if t.stage.toNat < mergeStages t.nLat then t else t.tail

/-- MERGE_FWD, one stage (rule R191). -/
def execMergeFwd (s : State) : Host.Outcome State Fault Refusal := .next (s.mergeStep .fwd)

/-- MERGE_INV, one stage (rule R192). -/
def execMergeInv (s : State) : Host.Outcome State Fault Refusal := .next (s.mergeStep .inv)

end Sys2Proof.Machine
end

