-- ==== Sys2Proof/Machine/Normalize.lean ====
section
/-! DEFINITION. The meaning of NORMALIZE (rules R220 to R224). -/

namespace Sys2Proof.Machine

/-- NORMALIZE (rule R220): every word of XR and XI below N is divided by RN32(N), and the command completes. -/
def execNormalize (s : State) : Host.Outcome State Fault Refusal :=
  let d := Fl.ofNat s.nLat
  let vs := (List.range s.nLat).map (fun i => (fdiv (s.readPair .x i).1 d, fdiv (s.readPair .x i).2 d))
  .next (s.writePairs .x 0 vs).complete

end Sys2Proof.Machine
end

