-- ==== Sys2Proof/Machine/Permute.lean ====
section
/-! DEFINITION. The meanings of PERMUTE (rule R153) and COPYBACK (rule R197), which move words bit for bit. -/

namespace Sys2Proof.Machine

/-- PERMUTE (rule R153): SR[i], SI[i] take XR, XI at the permuted index; the live bank is S, every section is to be
transformed, and the base stage of the direction follows (rule R241). -/
def execPermute (s : State) : Host.Outcome State Fault Refusal :=
  let re := (List.range s.nLat).map (fun i => s.readWord .xr (permuteSource s.nLat i))
  let im := (List.range s.nLat).map (fun i => s.readWord .xi (permuteSource s.nLat i))
  let t := (s.writeWords .sr 0 re).writeWords .si 0 im
  .next { t with role := .s, cursor := List.range (sections s.nLat), phase := basePhase s.dir }

/-- COPYBACK (rule R197): XR[i], XI[i] take SR[i], SI[i]; the live bank is X. -/
def execCopyback (s : State) : Host.Outcome State Fault Refusal :=
  let re := (List.range s.nLat).map (fun i => s.readWord .sr i)
  let im := (List.range s.nLat).map (fun i => s.readWord .si i)
  let t := (s.writeWords .xr 0 re).writeWords .xi 0 im
  .next ({ t with role := .x } : State).normalizeOrComplete

end Sys2Proof.Machine
end

