-- ==== Sys2Proof/Machine/Dispatch.lean ====
section
/-! DEFINITION. The dispatch: one arm per instruction, each one call of its meaning. -/

namespace Sys2Proof.Machine

def exec (i : Instr) (s : State) : Host.Outcome State Fault Refusal :=
  match i with
  | .fftFwd => Sys2Proof.Machine.execFftFwd s
  | .fftInv => Sys2Proof.Machine.execFftInv s
  | .badCmd rsv opc => Sys2Proof.Machine.execBadCmd rsv opc s
  | .validate => Sys2Proof.Machine.execValidate s
  | .permute => Sys2Proof.Machine.execPermute s
  | .baseFwd => Sys2Proof.Machine.execBaseFwd s
  | .baseInv => Sys2Proof.Machine.execBaseInv s
  | .mergeFwd => Sys2Proof.Machine.execMergeFwd s
  | .mergeInv => Sys2Proof.Machine.execMergeInv s
  | .copyback => Sys2Proof.Machine.execCopyback s
  | .normalize => Sys2Proof.Machine.execNormalize s
  | .rd addr => Sys2Proof.Machine.execRd addr s
  | .wr addr data => Sys2Proof.Machine.execWr addr data s

end Sys2Proof.Machine
end

