-- ==== Sys2Proof/Machine/Fetch.lean ====
section
/-! DEFINITION. Which instruction a step runs: the next pending host event, or the sequencer's micro-operation (rules
R62, R64, R241), the host's notation for programs (rules R88, R90), and where a word of the opcode table is put so that
the next step runs it (log 15). -/

namespace Sys2Proof.Machine

/-- What a step finds to do. -/
inductive Fetched where
  /-- Nothing to run: the state is the next one. -/
  | idle (s : State)
  /-- Run an instruction. -/
  | run (i : Instr) (s : State)
  /-- One read of a `poll` statement (rule R88). -/
  | poll (addr : Addr) (mask value : Word) (s : State)
  /-- BUSY = 1 and PHASE names no micro-operation. -/
  | stuck
deriving DecidableEq, Repr

/-- The sequencer's turn: with BUSY = 1 the micro-operation named by PHASE, with BUSY = 0 no step (rules R84, R241). -/
def sequencerTurn (s : State) : Fetched :=
  if s.busy then
    match decode (.phase s.phase.code) with
    | .ok i => .run i s
    | .error _ => .stuck
  else .idle s

/-- What the next step does: the first pending event, or, when none is pending, the sequencer's turn (rules R64, R290,
R304; logs 2, 3). -/
def fetch (s : State) : Fetched :=
  match s.host with
  | [] => sequencerTurn s
  | .access t :: rest => .run (decodeBus t) { s with host := rest }
  | .poll addr mask value :: rest => .poll addr mask value { s with host := rest }
  | .turn :: rest => sequencerTurn { s with host := rest }
  | .reset :: rest => .idle { s with host := rest }.afterReset

/-- After one read of a `poll`: it is over when the masked word is the one awaited, else the sequencer has a turn and
the poll reads again (rule R88; log 4). -/
def afterPoll (addr : Addr) (mask value : Word) (s : State) : State :=
  if s.rdata &&& mask = value then s
  else { s with host := .turn :: .poll addr mask value :: s.host }

/-- Whether a natural number is a length a command can have past VALIDATE (rules R34, R234). -/
def isLength (p : Params) (n : Nat) : Bool :=
  Config.B.ble n && n.ble p.nmax && n == 1 <<< n.log2

/-- The latched length if it is one, else the given one. -/
def State.lengthOr (n : Nat) (s : State) : Nat := bif isLength s.cfg s.nLat then s.nLat else n

/-- The state with the sequencer at a micro-operation (log 15): BUSY, PHASE, the direction that the code fixes or that
bit 3 of the word gives, and, where the micro-operation reads them and the state holds none that fit, a length, a
section to transform, a stage to run and the live bank. -/
def State.placePhase (i : Instr) (w : Nat) (s : State) : State :=
  let d : Dir := bif w / 8 % 2 == 1 then .inv else .fwd
  let t := { s with busy := true, host := .turn :: s.host }
  let sec := if s.cursor = [] then [0] else s.cursor
  let fits := mergeStages (s.lengthOr 32) != 0 && s.stage.toNat.blt (mergeStages (s.lengthOr 32))
  let n := bif fits then s.lengthOr 32 else 64
  let st := bif fits then s.stage else 0#5
  match i with
  | .validate => { t with phase := .validate, dir := d }
  | .permute => { t with phase := .permute, dir := d, nLat := s.lengthOr 32 }
  | .baseFwd => { t with phase := .baseFwd, dir := .fwd, nLat := s.lengthOr 32, cursor := sec, role := .s }
  | .baseInv => { t with phase := .baseInv, dir := .inv, nLat := s.lengthOr 32, cursor := sec, role := .s }
  | .mergeFwd => { t with phase := .mergeFwd, dir := .fwd, nLat := n, stage := st }
  | .mergeInv => { t with phase := .mergeInv, dir := .inv, nLat := n, stage := st }
  | .copyback => { t with phase := .copyback, dir := d, nLat := s.lengthOr 32, role := .s }
  | .normalize => { t with phase := .normalize, dir := .inv, nLat := s.lengthOr 32 }
  | .fftFwd => s
  | .fftInv => s
  | .badCmd _ _ => s
  | .rd _ => s
  | .wr _ _ => s

/-- The state in which the next step runs the instruction of an opcode-table word (log 15): a command word as the next
write to CMD, a micro-operation code as the sequencer's next step. A word that decodes to nothing changes nothing. -/
def State.placeCode (nbits w : Nat) (s : State) : State :=
  match tableCode nbits w with
  | .bus t => { s with host := .access t :: s.host }
  | .phase code =>
    match decode (.phase code) with
    | .ok i => s.placePhase i w
    | .error _ => s

/-- `wr ADDR, VALUE` (rules R88, R89). -/
def stmtWr (a : Addr) (v : Word) : HostEvent := .access { dir := .w, addr := a, data := v }

/-- `rd ADDR` (rules R88, R89). -/
def stmtRd (a : Addr) : HostEvent := .access { dir := .r, addr := a, data := 0#32 }

/-- `fwd` (rule R90). -/
def stmtFwd : HostEvent := stmtWr 0x000004#24 0x00000001#32

/-- `inv` (rule R90). -/
def stmtInv : HostEvent := stmtWr 0x000004#24 0x00000002#32

/-- `wait`: until BUSY = 0 and DONE = 1 (rule R90). -/
def stmtWait : HostEvent := .poll 0x000008#24 0x00000003#32 0x00000002#32

/-- `clr`: clear DONE, OVR, ACCERR (rule R90). -/
def stmtClr : HostEvent := stmtWr 0x000008#24 0x03000002#32

/-- `setlen n` (rule R90). -/
def stmtSetlen (n : Word) : List HostEvent := [stmtWr 0x000010#24 n, stmtWr 0x000014#24 n]

/-- `ldre i, v` (rule R90). -/
def stmtLdre (i : Nat) (v : Word) : HostEvent := stmtWr (BitVec.ofNat 24 (0x400000 + 4 * i)) v

/-- `ldim i, v` (rule R90). -/
def stmtLdim (i : Nat) (v : Word) : HostEvent := stmtWr (BitVec.ofNat 24 (0x800000 + 4 * i)) v

/-- `rdre i` (rule R90). -/
def stmtRdre (i : Nat) : HostEvent := stmtRd (BitVec.ofNat 24 (0x400000 + 4 * i))

/-- `rdim i` (rule R90). -/
def stmtRdim (i : Nat) : HostEvent := stmtRd (BitVec.ofNat 24 (0x800000 + 4 * i))

end Sys2Proof.Machine
end

