-- ==== Sys2Proof/Machine/Step.lean ====
section
/-! DEFINITION. One step of the block and of what stands outside it: one host event or one sequencer step (rule R62). -/

namespace Sys2Proof.Machine

/-- The outcome of a read of a `poll`, once the read is done. -/
def pollOutcome (addr : Addr) (mask value : Word) :
    Host.Outcome State Fault Refusal → Host.Outcome State Fault Refusal
  | .next s => .next (afterPoll addr mask value s)
  | .fault r => .fault r
  | .refused r => .refused r

/-- One step (rules R62, R64, R241). -/
def step (s : State) : Host.Outcome State Fault Refusal :=
  match fetch s with
  | .idle t => .next t
  | .run i t => exec i t
  | .poll addr mask value t => pollOutcome addr mask value (exec (.rd addr) t)
  | .stuck => .fault .noMicroOp

/-- The state with the instruction of an opcode-table word placed where `step` takes its next instruction (log 15). -/
def State.withFetchWord (s : State) (nbits w : Nat) : State := s.placeCode nbits w

end Sys2Proof.Machine
end

