-- ==== Sys2Proof/Safety.lean ====
section
/-! DEFINITION. What every run of the block keeps, in the terms the statements use: legal parameters and lengths,
canonical banks inside NMAX, constant ROMs, and a control state the sequencer can be in (rules R30, R34 to R37, R241). -/

namespace Sys2Proof.Machine

/-- A length a command can have past VALIDATE: a power of two in [32, NMAX] (rules R34, R234). -/
def LegalLength (p : Params) (n : Nat) : Prop := ∃ k, 5 ≤ k ∧ k ≤ p.log2Nmax ∧ n = 2 ^ k

/-- Every listed word of a bank has an index below NMAX (rules R28, R31). -/
def bankWithin (nmax : Nat) (b : Bank) : Prop := ∀ c ∈ b, c.1 < nmax

/-- The banks are in canonical form and inside NMAX. -/
def State.BanksOk (s : State) : Prop := ∀ b : BankId, (s.bank b).wf ∧ bankWithin s.cfg.nmax (s.bank b)

/-- The cursor holds sections of the command, rising (rule R36). -/
def State.CursorOk (s : State) : Prop :=
  s.cursor.Pairwise (· < ·) ∧ ∀ sec ∈ s.cursor, sec < sections s.nLat

/-- What PHASE says of the rest of the control state (rules R34 to R37, R241). -/
def State.PhaseOk (s : State) : Prop :=
  match s.phase with
  | .idle => s.role = .x ∧ s.cursor = []
  | .validate => s.role = .x ∧ s.cursor = [] ∧ s.stage = 0#5
  | .permute => s.role = .x ∧ s.cursor = [] ∧ s.stage = 0#5 ∧ LegalLength s.cfg s.nLat
  | .baseFwd => s.role = .s ∧ s.stage = 0#5 ∧ LegalLength s.cfg s.nLat ∧ s.dir = .fwd ∧ s.cursor ≠ [] ∧ s.CursorOk
  | .baseInv => s.role = .s ∧ s.stage = 0#5 ∧ LegalLength s.cfg s.nLat ∧ s.dir = .inv ∧ s.cursor ≠ [] ∧ s.CursorOk
  | .mergeFwd => s.role = (if s.stage.toNat % 2 = 0 then .s else .x) ∧ s.cursor = [] ∧
      s.stage.toNat < mergeStages s.nLat ∧ LegalLength s.cfg s.nLat ∧ s.dir = .fwd
  | .mergeInv => s.role = (if s.stage.toNat % 2 = 0 then .s else .x) ∧ s.cursor = [] ∧
      s.stage.toNat < mergeStages s.nLat ∧ LegalLength s.cfg s.nLat ∧ s.dir = .inv
  | .copyback => s.role = .s ∧ s.cursor = [] ∧ s.stage.toNat = mergeStages s.nLat ∧ LegalLength s.cfg s.nLat
  | .normalize => s.role = .x ∧ s.cursor = [] ∧ s.stage.toNat = mergeStages s.nLat ∧ LegalLength s.cfg s.nLat ∧
      s.dir = .inv

/-- The control state: BUSY exactly outside IDLE, no completion and no error while a command runs, STAGE at most 15
(rule R23). -/
def State.ControlOk (s : State) : Prop :=
  (s.busy = true ↔ s.phase ≠ .idle) ∧ (s.busy = true → s.done = false ∧ s.err = .none) ∧ s.stage.toNat ≤ 15

/-- The invariant of every run. -/
structure State.Inv (s : State) : Prop where
  params  : s.cfg.wf
  rom     : s.rom = romContents
  banks   : s.BanksOk
  control : s.ControlOk
  phase   : s.PhaseOk

/-- The number of sequencer steps of a command of length 2^k, `2 + N/32 + M + c + d` (rule R241): c counts COPYBACK,
when M is even, and d counts NORMALIZE, when the command is inverse. -/
def commandSteps (d : Dir) (k : Nat) : Nat :=
  2 + 2 ^ k / 32 + (k - 5) + (if (k - 5) % 2 = 0 then 1 else 0) +
    (match d with
    | .fwd => 0
    | .inv => 1)

/-- The real number a finite value stands for (rule R100); 0 for the others, which stand for none. -/
noncomputable def Fl.toReal : Fl → ℝ
  | .nan => 0
  | .inf _ => 0
  | .fin neg sig exp => (if neg then -1 else 1) * (sig : ℝ) * 2 ^ exp / 2 ^ 149

/-- A finite value that binary32 has. -/
def Fl.IsFinite (x : Fl) : Prop := x.wf = true ∧ ∃ neg sig exp, x = .fin neg sig exp

/-- `x = RN32(r)` up to the sign of a zero (rule R101): an infinity of the sign of r from `2^128 - 2^103` on, else the
nearest finite value, the one with an even significand on a tie. -/
def RoundsTo (r : ℝ) (x : Fl) : Prop :=
  (2 ^ 128 - 2 ^ 103 ≤ r → x = .inf false) ∧ (r ≤ -(2 ^ 128 - 2 ^ 103) → x = .inf true) ∧
    (|r| < 2 ^ 128 - 2 ^ 103 → ∃ neg sig exp, x = .fin neg sig exp ∧ x.wf = true ∧
      ∀ y : Fl, y.IsFinite → |x.toReal - r| ≤ |y.toReal - r| ∧
        (|x.toReal - r| = |y.toReal - r| → y.toReal ≠ x.toReal → sig % 2 = 0))

end Sys2Proof.Machine
end

