-- ==== Sys2Proof/Certificates/Slice0/Obligations.lean ====
section
/-! DEFINITION. The statements about the model, one definition each, from the numbered rules of spec/. -/

open Sys2Proof Sys2Proof.Machine

/-! ### Encoding -/

/-- Decoding the encoding of a well-formed instruction gives it back, every operand at every value (rules R80 to R84,
R89, R90). -/
def Obligations.DecodeEncodeAgree : Prop :=
  ∀ i : Instr, i.wf = true → decode (encode i) = .ok i

/-- Every code that decodes to an instruction decodes to a well-formed one whose encoding it is; only the `data` of a
read triple, which is the word returned and no part of the request (rule R89), is not kept. -/
def Obligations.EncodeDecodeAgree : Prop :=
  ∀ (c : Code) (i : Instr), decode c = .ok i →
    i.wf = true ∧ (encode i = c ∨ ∃ a d, c = .bus { dir := .r, addr := a, data := d } ∧ i = .rd a)

/-- Words written out from the spec's encodings decode to the instructions they stand for (rules R82 to R84, R89, R90).
That a row of the opcode table of 9 to 16 bits is read as a PHASE code is the model's choice (log 14), on which the
`decodeTableWord 16` clauses rest. -/
def Obligations.SpecWordsDecode : Prop :=
  decodeTableWord 32 0x00000001 = some .fftFwd ∧ decodeTableWord 32 0x00000002 = some .fftInv ∧
  decodeTableWord 32 0x00000000 = some (.badCmd 0 0) ∧ decodeTableWord 32 0x00000003 = some (.badCmd 0 3) ∧
  decodeTableWord 32 0x00000011 = some (.badCmd 1 1) ∧ decodeTableWord 32 0xFFFFFFFF = some (.badCmd 0xFFFFFFF 0xF) ∧
  decodeTableWord 16 0x0100 = some .validate ∧ decodeTableWord 16 0x0200 = some .permute ∧
  decodeTableWord 16 0x0300 = some .baseFwd ∧ decodeTableWord 16 0x0400 = some .baseInv ∧
  decodeTableWord 16 0x0500 = some .mergeFwd ∧ decodeTableWord 16 0x0600 = some .mergeInv ∧
  decodeTableWord 16 0x0700 = some .copyback ∧ decodeTableWord 16 0x0800 = some .normalize ∧
  decodeTableWord 16 0x0000 = none ∧ decodeTableWord 16 0x0900 = none ∧ decodeTableWord 16 0x0F00 = none ∧
  decodeBus { dir := .r, addr := 0x000008, data := 0x00000101 } = .rd 0x000008 ∧
  decodeBus { dir := .w, addr := 0x000010, data := 0x00000020 } = .wr 0x000010 0x00000020 ∧
  decodeBus { dir := .w, addr := 0x000004, data := 0x00000001 } = .fftFwd

/-- Exactly two command words are legal, each with RSV = 0; any other word is BADCMD with the word's own fields
(rule R82). -/
def Obligations.CommandWordsAreTwo : Prop :=
  ∀ w : Word, (decodeCmd w = .fftFwd ↔ w = 0x00000001) ∧ (decodeCmd w = .fftInv ↔ w = 0x00000002) ∧
    ∀ rsv opc, decodeCmd w = .badCmd rsv opc ↔ (w = rsv ++ opc ∧ w ≠ 0x00000001 ∧ w ≠ 0x00000002)

/-- The PHASE codes: 1 to 8 name VALIDATE, PERMUTE, BASE_FWD, BASE_INV, MERGE_FWD, MERGE_INV, COPYBACK and NORMALIZE in
this order, 0 is IDLE and names none, 9 to 15 are refused by name; and the code a phase reports is the one that decodes
to its micro-operation (rule R84). -/
def Obligations.PhaseCodesDecode : Prop :=
  decodePhase 0 = .error .idlePhase ∧ decodePhase 1 = .ok .validate ∧ decodePhase 2 = .ok .permute ∧
  decodePhase 3 = .ok .baseFwd ∧ decodePhase 4 = .ok .baseInv ∧ decodePhase 5 = .ok .mergeFwd ∧
  decodePhase 6 = .ok .mergeInv ∧ decodePhase 7 = .ok .copyback ∧ decodePhase 8 = .ok .normalize ∧
  Phase.idle.code = 0 ∧
  (∀ code : BitVec 4, 9 ≤ code.toNat → decodePhase code = .error (.reservedPhase code)) ∧
  ∀ (p : Phase) (i : Instr), (p, i) ∈ [(Phase.validate, Instr.validate), (.permute, .permute), (.baseFwd, .baseFwd),
      (.baseInv, .baseInv), (.mergeFwd, .mergeFwd), (.mergeInv, .mergeInv), (.copyback, .copyback),
      (.normalize, .normalize)] →
    decode (.phase p.code) = .ok i ∧ encode i = .phase p.code

/-- Byte lane j carries bits [8j+7 : 8j] of the word, and the four lanes are the word (rule R59). -/
def Obligations.ByteLanesLittleEndian : Prop :=
  (∀ w : Word, ofByteLanes (byteLane w 0) (byteLane w 1) (byteLane w 2) (byteLane w 3) = w) ∧
  (∀ b0 b1 b2 b3 : Byte, byteLane (ofByteLanes b0 b1 b2 b3) 0 = b0 ∧ byteLane (ofByteLanes b0 b1 b2 b3) 1 = b1 ∧
    byteLane (ofByteLanes b0 b1 b2 b3) 2 = b2 ∧ byteLane (ofByteLanes b0 b1 b2 b3) 3 = b3) ∧
  ∀ (w : Word) (j b : Nat), j < 4 → b < 8 → (byteLane w j).getLsbD b = w.getLsbD (8 * j + b)

/-! ### Steps -/

/-- A step runs the decoded instruction: the pending bus transaction, or, at the sequencer's turn with BUSY = 1, the
micro-operation PHASE names; with BUSY = 0 the sequencer takes no step; a pending reset resets (rules R62, R64, R84,
R241, R274, R290; that the coming events are pending in a list is the model's, logs 2 and 3). The last clause is the
model's choice and no rule's: BUSY = 1 with PHASE = IDLE is the fault noMicroOp (log 17). -/
def Obligations.StepRunsDecodedInstruction : Prop :=
  ∀ (s : State) (rest : List HostEvent),
    (∀ t, s.host = .access t :: rest → step s = exec (decodeBus t) { s with host := rest }) ∧
    (s.host = .reset :: rest → step s = .next ({ s with host := rest } : State).afterReset) ∧
    (s.host = .turn :: rest ∨ (s.host = [] ∧ rest = []) →
      (s.busy = false → step s = .next { s with host := rest }) ∧
      (∀ i, s.busy = true → decode (.phase s.phase.code) = .ok i → step s = exec i { s with host := rest }) ∧
      (s.busy = true → s.phase = .idle → step s = .fault .noMicroOp))

/-- One step of a `poll` is one read: the poll is over when the masked word is the awaited one, else the sequencer has
a turn and the poll stands again (rule R88; the turn between two reads is the model's choice, log 4). -/
def Obligations.PollReadsUntilMatch : Prop :=
  ∀ (s t : State) (a : Addr) (mask value : Word) (rest : List HostEvent), s.host = .poll a mask value :: rest →
    exec (.rd a) { s with host := rest } = .next t →
    step s = .next (if t.rdata &&& mask = value then t
      else { t with host := .turn :: .poll a mask value :: t.host })

/-- A word of the opcode table placed by withFetchWord is what the very next step runs (log 15). -/
def Obligations.FetchWordIsRunNext : Prop :=
  ∀ (s : State) (nbits w : Nat) (i : Instr), decodeTableWord nbits w = some i →
    step (s.withFetchWord nbits w) = exec i { s.withFetchWord nbits w with host := s.host }

/-! ### Invariant -/

/-- The invariant holds at reset, of every instance (rule R293); State.reset is the instance of log 1. -/
def Obligations.InvAtReset : Prop :=
  ∀ cfg : Params, cfg.wf → (State.resetOf cfg).Inv

/-- Every step keeps the invariant: canonical banks inside NMAX, constant ROMs, a control state the sequencer can be in,
ROLE following the parity of STAGE, a legal length, a cursor of sections of the command (rules R30, R34 to R37, R241). -/
def Obligations.StepKeepsInv : Prop :=
  ∀ s t : State, s.Inv → step s = .next t → t.Inv

/-- In a state that meets the invariant the machine always steps: it never faults and never refuses (rules R243, R266). -/
def Obligations.InvStateAlwaysSteps : Prop :=
  ∀ s : State, s.Inv → ∃ t, step s = .next t

/-- No step changes the ROMs or the parameters of the instance (rules R20, R33, R130). -/
def Obligations.StepKeepsRomAndInstance : Prop :=
  ∀ s t : State, step s = .next t → t.rom = s.rom ∧ t.cfg = s.cfg

/-- Reset puts every piece of state in the reset state, whatever was running (rule R293). -/
def Obligations.ResetPutsResetState : Prop :=
  ∀ s : State, s.rom = romContents →
    let t := s.afterReset
    t.ctrlWord = 0 ∧ t.statusWord = 0 ∧ t.capWord = s.capWord ∧ t.lenRe = 0 ∧ t.lenIm = 0 ∧ t.rom = romContents ∧
    t.nLat = 0 ∧ t.dir = .fwd ∧ t.role = .x ∧ t.phase = .idle ∧ t.stage = 0 ∧ t.cursor = [] ∧ t.irq = false ∧
    t.ie = false ∧ t.busy = false ∧ t.done = false ∧ t.err = .none ∧ t.ovr = false ∧ t.accerr = false ∧
    (∃ u, exec (.rd 0x000004) t = .next u ∧ u.rdata = 0) ∧ ∃ u, exec .fftFwd t = .next u ∧ u.busy = true

/-- A reset event resets in one step, and every bank word is then the free value of the new epoch, whatever it was
(rules R290, R291; logs 7 and 10); what is outside the block stays: the pending events, the section choices, the word
last returned and the draw counter (the model's choice, log 20). -/
def Obligations.ResetDrawsBanksAnew : Prop :=
  ∀ (s : State) (rest : List HostEvent), s.host = .reset :: rest →
    ∃ t, step s = .next t ∧ (∀ b i, t.readWord b i = Config.resetWord (s.epoch + 1) b.code i) ∧
      t.epoch = s.epoch + 1 ∧ t.host = rest ∧ t.picks = s.picks ∧ t.rdata = s.rdata ∧ t.draws = s.draws

/-! ### Commands -/

/-- A legal command word written while BUSY = 0 is accepted; everything not named keeps its value (rule R231). -/
def Obligations.LegalCommandAccepted : Prop :=
  ∀ s : State, s.busy = false →
    exec .fftFwd s = .next { s with
      busy := true, done := false, err := .none, dir := .fwd, stage := 0, phase := .validate, cursor := [] } ∧
    exec .fftInv s = .next { s with
      busy := true, done := false, err := .none, dir := .inv, stage := 0, phase := .validate, cursor := [] }

/-- Any word written to CMD while BUSY = 1 is dropped and sets OVR, and nothing else changes (rule R242). -/
def Obligations.CommandWhileBusyOverruns : Prop :=
  ∀ s : State, s.busy = true →
    exec .fftFwd s = .next { s with ovr := true } ∧ exec .fftInv s = .next { s with ovr := true } ∧
    (∀ rsv opc, exec (.badCmd rsv opc) s = .next { s with ovr := true }) ∧
    ∀ v, exec (.wr 0x000004 v) s = .next { s with ovr := true }

/-- An illegal word written to CMD while BUSY = 0 is refused in the write: ERR 4, DONE 1, STAGE 0, and nothing else
changes (rule R235). -/
def Obligations.IllegalWordIsBadCommand : Prop :=
  ∀ s : State, s.busy = false →
    (∀ rsv opc, (Instr.badCmd rsv opc).wf = true →
      exec (.badCmd rsv opc) s = .next { s with err := .badCommand, done := true, stage := 0 }) ∧
    (∀ v : Word, v ≠ 0x00000001 → v ≠ 0x00000002 →
      exec (.wr 0x000004 v) s = .next { s with err := .badCommand, done := true, stage := 0 }) ∧
    errCode .badCommand = 4

/-- A write to CMD is the command its word decodes to, busy or not (rules R56, R230). -/
def Obligations.CmdWriteIsDecodedCommand : Prop :=
  ∀ (s : State) (v : Word), exec (.wr 0x000004 v) s = exec (decodeCmd v) s

/-- The fields of STATUS, with IRQ = DONE AND IE, DIR 0 for forward and 1 for inverse, ERR 0 for none and the reserved
bits 0, and those of CTRL (rules R22, R23, R34, R38, R260). -/
def Obligations.StatusAndCtrlLayout : Prop :=
  ∀ s : State,
    s.statusWord.getLsbD 0 = s.busy ∧ s.statusWord.getLsbD 1 = s.done ∧ s.statusWord.getLsbD 2 = (s.done && s.ie) ∧
    s.irq = (s.done && s.ie) ∧ s.statusWord.extractLsb' 3 1 = dirCode s.dir ∧
    s.statusWord.extractLsb' 4 4 = errCode s.err ∧ s.statusWord.extractLsb' 8 4 = s.phase.code ∧
    s.statusWord.extractLsb' 12 5 = s.stage ∧ s.statusWord.extractLsb' 17 7 = 0 ∧ s.statusWord.getLsbD 24 = s.ovr ∧
    s.statusWord.getLsbD 25 = s.accerr ∧ s.statusWord.extractLsb' 26 6 = 0 ∧
    s.ctrlWord.getLsbD 0 = s.ie ∧ s.ctrlWord.extractLsb' 1 31 = 0 ∧
    dirCode .fwd = 0 ∧ dirCode .inv = 1 ∧ errCode .none = 0

/-- CAP reports the parameters of the instance, no step changes it and a write to it has no effect (rule R24); the six
backend codes are 0 to 5, Scalar sums in SEQ order and the others in VEC4 order (rule R86). -/
def Obligations.CapIsConstantOfInstance : Prop :=
  ∀ s : State, s.cfg.wf →
    (s.capWord.extractLsb' 0 4).toNat = 5 ∧ (s.capWord.extractLsb' 4 4).toNat = 10 ∧
    (s.capWord.extractLsb' 8 5).toNat = s.cfg.log2Nmax ∧ s.capWord.extractLsb' 13 3 = 0 ∧
    s.capWord.extractLsb' 16 3 = backendCode s.cfg.backend ∧ s.capWord.extractLsb' 19 5 = 0 ∧
    (s.capWord.extractLsb' 24 8).toNat = s.cfg.lanes ∧
    exec (.rd 0x00000C) s = .next { s with rdata := s.capWord } ∧ (∀ v, exec (.wr 0x00000C v) s = .next s) ∧
    (∀ t, step s = .next t → t.capWord = s.capWord) ∧
    (State.resetOf { log2Nmax := 16, backend := .scalar, lanes := 4 }).capWord = 0x040010A5 ∧
    (backendCode .scalar = 0 ∧ Machine.orderOf .scalar = .seq) ∧ (backendCode .vec4A = 1 ∧ Machine.orderOf .vec4A = .vec4) ∧
    (backendCode .vec4B = 2 ∧ Machine.orderOf .vec4B = .vec4) ∧ (backendCode .vec4C = 3 ∧ Machine.orderOf .vec4C = .vec4) ∧
    (backendCode .vec4D = 4 ∧ Machine.orderOf .vec4D = .vec4) ∧ (backendCode .vecArm = 5 ∧ Machine.orderOf .vecArm = .vec4) ∧
    ∀ b, (backendCode b).toNat ≤ 5

/-! ### Validation -/

/-- VALIDATE of equal lengths that are a power of two in [32, NMAX] latches the length and goes on to PERMUTE; nothing
else changes (rule R234). -/
def Obligations.ValidateLatchesLegalLength : Prop :=
  ∀ (s : State) (k : Nat), s.cfg.wf → s.lenRe = s.lenIm → s.lenRe.toNat = 2 ^ k → 5 ≤ k → k ≤ s.cfg.log2Nmax →
    exec .validate s = .next { s with nLat := 2 ^ k, role := .x, phase := .permute }

/-- VALIDATE raises the first error that applies, ending the command in the same step with no other change: unequal
lengths, then a length that is no power of two or below 32, then a length above NMAX (rules R236 to R239). -/
def Obligations.ValidateRaisesFirstError : Prop :=
  ∀ s : State,
    (s.lenRe ≠ s.lenIm →
      exec .validate s = .next { s with err := .shapeMismatch, busy := false, done := true, phase := .idle }) ∧
    (s.lenRe = s.lenIm → ((¬ ∃ k, s.lenRe.toNat = 2 ^ k) ∨ s.lenRe.toNat < 32) →
      exec .validate s = .next { s with err := .invalidLength, busy := false, done := true, phase := .idle }) ∧
    (s.lenRe = s.lenIm → (∃ k, 5 ≤ k ∧ s.lenRe.toNat = 2 ^ k) → 2 ^ s.cfg.log2Nmax < s.lenRe.toNat →
      exec .validate s = .next { s with err := .allocationFailure, busy := false, done := true, phase := .idle }) ∧
    errCode .shapeMismatch = 1 ∧ errCode .invalidLength = 2 ∧ errCode .allocationFailure = 3

/-! ### Permutation -/

/-- PERMUTE moves XR and XI into SR and SI in the permuted order, bit for bit, sets ROLE, the cursor and the phase, and
changes no other word and nothing else (rule R153). -/
def Obligations.PermuteMovesWords : Prop :=
  ∀ s : State, ∃ t, exec .permute s = .next t ∧
    t = { s with sr := t.sr, si := t.si, role := .s, cursor := List.range (s.nLat / 32), phase := basePhase s.dir } ∧
    (∀ i, i < s.nLat →
      t.readWord .sr i = s.readWord .xr (s.nLat / 32 * (i % 32) + bitrev (s.nLat / 32).log2 (i / 32)) ∧
      t.readWord .si i = s.readWord .xi (s.nLat / 32 * (i % 32) + bitrev (s.nLat / 32).log2 (i / 32))) ∧
    ∀ i, s.nLat ≤ i → t.readWord .sr i = s.readWord .sr i ∧ t.readWord .si i = s.readWord .si i

/-- The source index of PERMUTE is a bijection of [0, N) (rule R154). -/
def Obligations.PermuteSourceIsBijection : Prop :=
  ∀ k, 5 ≤ k → Set.BijOn (permuteSource (2 ^ k)) (Set.Iio (2 ^ k)) (Set.Iio (2 ^ k))

/-- The recursively split permutation table is the bit reversal, which is its own inverse (rule R152). -/
def Obligations.PermTableIsBitReversal : Prop :=
  ∀ l : Nat, permTable (2 ^ l) = (List.range (2 ^ l)).map (bitrev l) ∧
    ∀ i, i < 2 ^ l → bitrev l i < 2 ^ l ∧ bitrev l (bitrev l i) = i

/-! ### Base stage -/

/-- What one BASE step does, for a rotation: some section of the cursor is replaced by its direct transform, computed
from its old values, in the order of the backend; it leaves the cursor; no other word and no other register changes,
but for the model's own choice list and draw counter; and when the cursor is empty Tail follows. -/
def Sys2Proof.BaseStepSpec (i : Instr) (rotation : Fl → Fl → Fl → Fl → Fl × Fl) : Prop :=
  ∀ s : State, s.cursor ≠ [] → ∃ (j : Nat) (hj : j < s.cursor.length) (u : State),
    exec i s = .next (if s.cursor.eraseIdx j = [] then u.tail else u) ∧
    u = { s with
      sr := u.sr, si := u.si, cursor := s.cursor.eraseIdx j, picks := s.picks.tail, draws := s.draws + 1 } ∧
    (∀ k, k < 32 →
      let term := fun n => rotation (s.readPair .s (32 * s.cursor[j] + n)).1 (s.readPair .s (32 * s.cursor[j] + n)).2
        (Fl.ofWord (s.rom.bcos.getD (n * k % 32) 0)) (Fl.ofWord (s.rom.bsin.getD (n * k % 32) 0))
      u.readPair .s (32 * s.cursor[j] + k) =
        (reduce (orderOf s.cfg.backend) ((List.range 32).map (fun n => (term n).1)),
          reduce (orderOf s.cfg.backend) ((List.range 32).map (fun n => (term n).2)))) ∧
    ∀ m, (m < 32 * s.cursor[j] ∨ 32 * s.cursor[j] + 32 ≤ m) →
      u.readWord .sr m = s.readWord .sr m ∧ u.readWord .si m = s.readWord .si m

/-- From every state with a section left, BASE_FWD answers the state in which some section of the cursor is replaced by
its 32-point forward transform of the old values, summed in the order of the backend, and has left the cursor; no other
word and no other register changes, but for the model's own choice list and draw counter (logs 5, 8, 10); with the cursor
empty Tail follows (rules R171, R174, R241). -/
def Obligations.BaseFwdTransformsOneSection : Prop := BaseStepSpec .baseFwd rotF

/-- From every state with a section left, BASE_INV answers the state in which some section of the cursor is replaced by
its 32-point inverse transform of the old values, unscaled, summed in the order of the backend, and has left the cursor;
no other word and no other register changes, but for the model's own choice list and draw counter (logs 5, 8, 10); with
the cursor empty Tail follows (rules R172, R174, R241). -/
def Obligations.BaseInvTransformsOneSection : Prop := BaseStepSpec .baseInv rotI

/-- A NaN among the 64 words of a section makes all 64 outputs NaN, in both directions and orders (rule R171). -/
def Obligations.NanSpoilsWholeSection : Prop :=
  ∀ (d : Dir) (o : Order) (rom : Rom) (xs : List (Fl × Fl)) (k : Nat), xs.length = 32 →
    (∃ x ∈ xs, x.1 = .nan ∨ x.2 = .nan) →
    baseOutput d o rom xs k = (.nan, .nan)

/-- The reduction orders, over 32 terms: SEQ adds in increasing index, VEC4 in pairwise trees of four; Scalar uses SEQ
and every other backend VEC4; and no reduction gives -0 (rules R112 to R114). -/
def Obligations.ReductionOrderOfBackend : Prop :=
  (∀ ts : List Fl, ts.length = 32 →
    reduce .seq ts = (List.range 32).foldl (fun acc n => fadd acc (ts.getD n .nan)) Fl.zero ∧
    reduce .vec4 ts = (List.range 8).foldl (fun acc g => fadd acc
      (fadd (fadd (ts.getD (4 * g) .nan) (ts.getD (4 * g + 1) .nan))
        (fadd (ts.getD (4 * g + 2) .nan) (ts.getD (4 * g + 3) .nan)))) Fl.zero) ∧
  (∀ b : Backend, orderOf b = if b = .scalar then .seq else .vec4) ∧
  ∀ (o : Order) (ts : List Fl) (e : Nat), reduce o ts ≠ .fin true 0 e

/-! ### Merge, copy-back, normalization -/

/-- What one MERGE step does, for a rotation and a twiddle: every butterfly of the stage is computed from the live bank
pair into the other pair; the live pair and the words from N on keep their values; ROLE flips, STAGE counts one more,
and no other register changes but for the model's draw counter; after the last stage Tail follows. -/
def Sys2Proof.MergeStepSpec (i : Instr) (rotation : Fl → Fl → Fl → Fl → Fl × Fl)
    (tw : Rom → Nat → Nat → Fl × Fl) : Prop :=
  ∀ s : State, ∃ u : State,
    exec i s = .next (if u.stage.toNat < mergeStages u.nLat then u else u.tail) ∧
    u = { s with
      xr := u.xr, xi := u.xi, sr := u.sr, si := u.si, role := s.role.other, stage := s.stage + 1, draws := s.draws + 1 } ∧
    (∀ p k, k < 32 * 2 ^ s.stage.toNat → 2 * p * (32 * 2 ^ s.stage.toNat) + 2 * (32 * 2 ^ s.stage.toNat) ≤ s.nLat →
      let div := 32 * 2 ^ s.stage.toNat
      let lo := s.readPair s.role (2 * p * div + k)
      let hi := s.readPair s.role (2 * p * div + div + k)
      let w := rotation hi.1 hi.2 (tw s.rom k div).1 (tw s.rom k div).2
      u.readPair s.role.other (2 * p * div + k) = (fadd lo.1 w.1, fadd lo.2 w.2) ∧
      u.readPair s.role.other (2 * p * div + div + k) = (fsub lo.1 w.1, fsub lo.2 w.2)) ∧
    (∀ m, u.readWord s.role.re m = s.readWord s.role.re m ∧ u.readWord s.role.im m = s.readWord s.role.im m) ∧
    ∀ m, s.nLat ≤ m → u.readWord s.role.other.re m = s.readWord s.role.other.re m ∧
      u.readWord s.role.other.im m = s.readWord s.role.other.im m

/-- From every state, MERGE_FWD answers the state in which every butterfly of the stage, with the sampled forward twiddle,
is computed from the live bank pair into the other; the live pair and the words from N on keep their values; ROLE flips,
STAGE counts one more, no other register changes but for the model's draw counter (logs 8, 10), and after the last stage
Tail follows (rules R137, R138, R190, R191, R194). -/
def Obligations.MergeFwdRunsOneStage : Prop :=
  MergeStepSpec .mergeFwd rotF (fun rom k div =>
    (Fl.ofWord (rom.scos.getD (k * 1024 / div) 0), Fl.ofWord (rom.ssin.getD (k * 1024 / div) 0)))

/-- From every state, MERGE_INV answers the state in which every butterfly of the stage, with the directly computed cosine
(the model's `invCos`, log 12) and the sine derived from it, is computed from the live bank pair into the other; the live
pair and the words from N on keep their values; ROLE flips, STAGE counts one more, no other register changes but for the
model's draw counter (logs 8, 10), and after the last stage Tail follows (rules R139, R190, R192, R194). -/
def Obligations.MergeInvRunsOneStage : Prop :=
  MergeStepSpec .mergeInv rotI (fun _ k div =>
    (invCos k div, fsqrt (fsub Fl.one (fmul (invCos k div) (invCos k div)))))

/-- COPYBACK moves the scratch words below N to the data banks bit for bit, sets ROLE to X and goes on to NORMALIZE for
an inverse command or completes a forward one; nothing else changes (rules R197, R240, R241). -/
def Obligations.CopybackMovesResult : Prop :=
  ∀ s : State, ∃ t, exec .copyback s = .next t ∧
    (s.dir = .inv → t = { s with xr := t.xr, xi := t.xi, role := .x, phase := .normalize }) ∧
    (s.dir = .fwd → t = { s with xr := t.xr, xi := t.xi, role := .x, phase := .idle, busy := false, done := true }) ∧
    (∀ i, i < s.nLat → t.readWord .xr i = s.readWord .sr i ∧ t.readWord .xi i = s.readWord .si i) ∧
    ∀ i, s.nLat ≤ i → t.readWord .xr i = s.readWord .xr i ∧ t.readWord .xi i = s.readWord .xi i

/-- NORMALIZE divides every word of XR and XI below N by RN32(N) and completes the command; nothing else changes but for
the model's draw counter (rules R220, R222, R240). -/
def Obligations.NormalizeDividesByN : Prop :=
  ∀ s : State, ∃ t, exec .normalize s = .next t ∧
    t = { s with
      xr := t.xr, xi := t.xi, phase := .idle, busy := false, done := true, draws := s.draws + 1 } ∧
    (∀ i, i < s.nLat → t.readPair .x i =
      (fdiv (s.readPair .x i).1 (Fl.ofNat s.nLat), fdiv (s.readPair .x i).2 (Fl.ofNat s.nLat))) ∧
    ∀ i, s.nLat ≤ i → t.readWord .xr i = s.readWord .xr i ∧ t.readWord .xi i = s.readWord .xi i

/-- RN32(N) of a length is the exact power of two, and dividing by it gives the same value as multiplying by the exact
1/N, for every value (rule R223). -/
def Obligations.ScalerDivisionIsMultiplication : Prop :=
  ∀ n, 5 ≤ n → n ≤ 20 → Fl.ofNat (2 ^ n) = .fin false (2 ^ 23) (126 + n) ∧
    ∀ x : Fl, x.wf = true → fmul x (.fin false (2 ^ 23) (126 - n)) = fdiv x (Fl.ofNat (2 ^ n))

/-! ### Host accesses -/

/-- The address map: which address selects which register or word, and which selects nothing (rules R51 to R54, R57,
R58). -/
def Obligations.AddressMapIsTotal : Prop :=
  ∀ (p : Params) (a : Addr),
    (a.toNat = 0 → select p a = some .ctrl) ∧ (a.toNat = 4 → select p a = some .cmd) ∧
    (a.toNat = 8 → select p a = some .status) ∧ (a.toNat = 12 → select p a = some .cap) ∧
    (a.toNat = 16 → select p a = some .lenRe) ∧ (a.toNat = 20 → select p a = some .lenIm) ∧
    (∀ i, select p a = some (.re i) ↔ a.toNat = 0x400000 + 4 * i ∧ i < 2 ^ 20 ∧ i < 2 ^ p.log2Nmax) ∧
    (∀ i, select p a = some (.im i) ↔ a.toNat = 0x800000 + 4 * i ∧ i < 2 ^ 20 ∧ i < 2 ^ p.log2Nmax) ∧
    (select p a = none ↔ a.toNat % 4 ≠ 0 ∨ (0x18 ≤ a.toNat ∧ a.toNat < 0x400000) ∨ 0xC00000 ≤ a.toNat ∨
      (0x400000 ≤ a.toNat ∧ a.toNat < 0x800000 ∧ 2 ^ p.log2Nmax ≤ (a.toNat - 0x400000) / 4) ∨
      (0x800000 ≤ a.toNat ∧ a.toNat < 0xC00000 ∧ 2 ^ p.log2Nmax ≤ (a.toNat - 0x800000) / 4))

/-- A misaligned access is refused, a reserved address or an index at or above NMAX too: a read returns 0, a write is
dropped, ACCERR is set, nothing else changes (rules R57, R58). -/
def Obligations.RefusedAccessSetsAccerr : Prop :=
  ∀ (s : State) (a : Addr),
    (a.toNat % 4 ≠ 0 ∨ (0x18 ≤ a.toNat ∧ a.toNat < 0x400000) ∨ 0xC00000 ≤ a.toNat ∨
      (0x400000 ≤ a.toNat ∧ a.toNat < 0x800000 ∧ 2 ^ s.cfg.log2Nmax ≤ (a.toNat - 0x400000) / 4) ∨
      (0x800000 ≤ a.toNat ∧ a.toNat < 0xC00000 ∧ 2 ^ s.cfg.log2Nmax ≤ (a.toNat - 0x800000) / 4)) →
    exec (.rd a) s = .next { s with accerr := true, rdata := 0 } ∧
    ∀ v, exec (.wr a v) s = .next { s with accerr := true }

/-- A read of a register returns its value, busy or not, CMD reads 0, and nothing else changes (rules R27, R55). -/
def Obligations.RegisterReads : Prop :=
  ∀ s : State,
    exec (.rd 0x000000) s = .next { s with rdata := s.ctrlWord } ∧
    exec (.rd 0x000004) s = .next { s with rdata := 0 } ∧
    exec (.rd 0x000008) s = .next { s with rdata := s.statusWord } ∧
    exec (.rd 0x00000C) s = .next { s with rdata := s.capWord } ∧
    exec (.rd 0x000010) s = .next { s with rdata := s.lenRe } ∧
    exec (.rd 0x000014) s = .next { s with rdata := s.lenIm }

/-- A write to a register changes what its rule says and nothing else: CTRL takes IE from bit 0, STATUS clears DONE, OVR
and ACCERR where the written bit is 1, CAP ignores it, LEN_RE and LEN_IM take the word while BUSY = 0 (rules R22, R23,
R56). -/
def Obligations.RegisterWrites : Prop :=
  ∀ (s : State) (v : Word),
    exec (.wr 0x000000 v) s = .next { s with ie := v.getLsbD 0 } ∧
    exec (.wr 0x000008 v) s = .next { s with
      done := if v.getLsbD 1 then false else s.done
      ovr := if v.getLsbD 24 then false else s.ovr
      accerr := if v.getLsbD 25 then false else s.accerr } ∧
    exec (.wr 0x00000C v) s = .next s ∧
    (s.busy = false → exec (.wr 0x000010 v) s = .next { s with lenRe := v } ∧
      exec (.wr 0x000014 v) s = .next { s with lenIm := v })

/-- With BUSY = 0 a window read returns the word of XR or XI, bit for bit, and nothing else changes (rules R53 to R55). -/
def Obligations.WindowReadReturnsWord : Prop :=
  ∀ (s : State) (i : Nat), s.busy = false → i < 2 ^ 20 → i < 2 ^ s.cfg.log2Nmax →
    exec (.rd (BitVec.ofNat 24 (0x400000 + 4 * i))) s = .next { s with rdata := s.readWord .xr i } ∧
    exec (.rd (BitVec.ofNat 24 (0x800000 + 4 * i))) s = .next { s with rdata := s.readWord .xi i }

/-- With BUSY = 0 a window write stores the word as given at its index, and no other word and nothing else changes
(rules R53, R54, R56). -/
def Obligations.WindowWriteStoresWord : Prop :=
  ∀ (s : State) (i : Nat) (v : Word), s.busy = false → i < 2 ^ 20 → i < 2 ^ s.cfg.log2Nmax →
    (∃ t, exec (.wr (BitVec.ofNat 24 (0x400000 + 4 * i)) v) s = .next t ∧ t = { s with xr := t.xr } ∧
      ∀ b j, t.readWord b j = if b = .xr ∧ j = i then v else s.readWord b j) ∧
    ∃ t, exec (.wr (BitVec.ofNat 24 (0x800000 + 4 * i)) v) s = .next t ∧ t = { s with xi := t.xi } ∧
      ∀ b j, t.readWord b j = if b = .xi ∧ j = i then v else s.readWord b j

/-- While BUSY = 1 a window read sets ACCERR and returns some word, a write to a window or a length register is dropped
with ACCERR, and CTRL, STATUS, CAP and CMD are served (rule R61). The word is a free value of the model and the draw
counter that moves on with it is the model's own (logs 9 and 10). -/
def Obligations.DataLockedWhileBusy : Prop :=
  ∀ (s : State) (i : Nat) (v : Word), s.busy = true → i < 2 ^ 20 → i < 2 ^ s.cfg.log2Nmax →
    (∀ base : Nat, base = 0x400000 ∨ base = 0x800000 →
      (∃ r, exec (.rd (BitVec.ofNat 24 (base + 4 * i))) s =
        .next { s with accerr := true, rdata := r, draws := s.draws + 1 }) ∧
      exec (.wr (BitVec.ofNat 24 (base + 4 * i)) v) s = .next { s with accerr := true }) ∧
    exec (.wr 0x000010 v) s = .next { s with accerr := true } ∧
    exec (.wr 0x000014 v) s = .next { s with accerr := true } ∧
    exec (.rd 0x000000) s = .next { s with rdata := s.ctrlWord } ∧
    exec (.rd 0x000004) s = .next { s with rdata := 0 } ∧
    exec (.rd 0x000008) s = .next { s with rdata := s.statusWord } ∧
    exec (.rd 0x00000C) s = .next { s with rdata := s.capWord } ∧
    exec (.wr 0x000000 v) s = .next { s with ie := v.getLsbD 0 } ∧
    exec (.wr 0x000004 v) s = .next { s with ovr := true } ∧
    exec (.wr 0x000008 v) s = .next { s with
      done := if v.getLsbD 1 then false else s.done
      ovr := if v.getLsbD 24 then false else s.ovr
      accerr := if v.getLsbD 25 then false else s.accerr } ∧
    exec (.wr 0x00000C v) s = .next s

/-- No host access starts, stops or alters a running command: it changes at most CTRL.IE, DONE, OVR, ACCERR, the word
returned and the model's draw counter (rules R61, R230, R244). -/
def Obligations.HostCannotDisturbCommand : Prop :=
  ∀ (s t : State) (a : BusTriple) (rest : List HostEvent), s.busy = true → s.host = .access a :: rest →
    step s = .next t →
    t = { s with
      host := rest, ie := t.ie, done := t.done, ovr := t.ovr, accerr := t.accerr, rdata := t.rdata, draws := t.draws }

/-! ### Arithmetic -/

/-- A word that is no NaN is the word of its value; a word is a NaN exactly when its exponent is 255 and its fraction is
not 0; an infinity has exponent 255 and fraction 0; the other words stand for the subnormal and normal values of the
format (rule R100). -/
def Obligations.WordsAndValuesAgree : Prop :=
  ∀ w : Word, (Fl.ofWord w = .nan ↔ w.toNat / 2 ^ 23 % 256 = 255 ∧ w.toNat % 2 ^ 23 ≠ 0) ∧
    (Fl.ofWord w ≠ .nan → ∀ draw, (Fl.ofWord w).toWord draw = w) ∧
    (w.toNat / 2 ^ 23 % 256 = 255 → w.toNat % 2 ^ 23 = 0 → Fl.ofWord w = .inf (w.getLsbD 31)) ∧
    (w.toNat / 2 ^ 23 % 256 < 255 → (Fl.ofWord w).toReal = (if w.getLsbD 31 then -1 else 1) *
      (if w.toNat / 2 ^ 23 % 256 = 0 then (2 : ℝ) ^ (-126 : ℤ) * (((w.toNat % 2 ^ 23 : ℕ) : ℝ) / 2 ^ 23)
      else (2 : ℝ) ^ (((w.toNat / 2 ^ 23 % 256 : ℕ) : ℤ) - 127) * (1 + ((w.toNat % 2 ^ 23 : ℕ) : ℝ) / 2 ^ 23)))

/-- What is stored for a NaN (rule R107): `nanWord` gives NaN patterns only and every NaN pattern is one of its words; a
NaN among computed values written to a bank is stored as the `nanWord` of its free pattern, and so reads back as a NaN,
while every other value reads back as itself. That the pattern is drawn at the store is the model's choice (log 8). -/
def Obligations.NanPatternsAreTheDraws : Prop :=
  (∀ p, Fl.ofWord (nanWord p) = .nan) ∧ (∀ w, Fl.ofWord w = .nan → ∃ p, nanWord p = w) ∧
  ∀ (s : State) (b : BankId) (lo : Nat) (vs : List Fl) (i : Nat) (v : Fl), vs[i]? = some v → v.wf = true →
    Fl.ofWord ((s.writeFls b lo vs).readWord b (lo + i)) = v ∧
    (v = .nan →
      (s.writeFls b lo vs).readWord b (lo + i) = nanWord (Config.nanPattern s.draws b.code (lo + i)))

/-- `rn32` is RN32: nearest, ties to even, subnormals kept, infinities from 2^128 - 2^103 on, and +0 for 0 (rule R101). -/
def Obligations.RoundingIsNearestEven : Prop :=
  ∀ (num den : Nat), 0 < den →
    RoundsTo ((num : ℝ) / den / 2 ^ 149) (rn32 false num den) ∧
    RoundsTo (-((num : ℝ) / den / 2 ^ 149)) (rn32 true num den) ∧
    rn32 false 0 den = .fin false 0 0

/-- `fmul`: NaN operands and infinity times zero give a NaN, another infinity operand an infinity of the product's sign,
finite operands the rounded product, whose sign a zero keeps (rule R102). -/
def Obligations.FmulFollowsRule : Prop :=
  (∀ a, fmul .nan a = .nan ∧ fmul a .nan = .nan) ∧
  (∀ s t e, fmul (.inf s) (.fin t 0 e) = .nan ∧ fmul (.fin t 0 e) (.inf s) = .nan) ∧
  (∀ s t, fmul (.inf s) (.inf t) = .inf (s ^^ t)) ∧
  (∀ s t m e, m ≠ 0 → fmul (.inf s) (.fin t m e) = .inf (s ^^ t) ∧ fmul (.fin t m e) (.inf s) = .inf (s ^^ t)) ∧
  ∀ s m e t n f, (Fl.fin s m e).wf = true → (Fl.fin t n f).wf = true →
    RoundsTo ((Fl.fin s m e).toReal * (Fl.fin t n f).toReal) (fmul (.fin s m e) (.fin t n f)) ∧
    ∀ u, fmul (.fin s m e) (.fin t n f) = .fin u 0 0 → u = (s ^^ t)

/-- `fadd`: NaN operands and opposite infinities give a NaN, another infinity operand that infinity, finite operands the
rounded sum; an exact zero is -0 only for -0 + -0, and a sum that is not zero never rounds to zero; `fsub` adds the
operand with its sign flipped (rule R103). -/
def Obligations.FaddFollowsRule : Prop :=
  (∀ a, fadd .nan a = .nan ∧ fadd a .nan = .nan) ∧
  (∀ s t, fadd (.inf s) (.inf t) = if s = t then .inf s else .nan) ∧
  (∀ s t m e, fadd (.inf s) (.fin t m e) = .inf s ∧ fadd (.fin t m e) (.inf s) = .inf s) ∧
  (∀ s m e t n f, (Fl.fin s m e).wf = true → (Fl.fin t n f).wf = true →
    RoundsTo ((Fl.fin s m e).toReal + (Fl.fin t n f).toReal) (fadd (.fin s m e) (.fin t n f)) ∧
    ((Fl.fin s m e).toReal + (Fl.fin t n f).toReal = 0 →
      fadd (.fin s m e) (.fin t n f) = .fin (s && t) 0 0) ∧
    ((Fl.fin s m e).toReal + (Fl.fin t n f).toReal ≠ 0 →
      ∀ u g, fadd (.fin s m e) (.fin t n f) ≠ .fin u 0 g)) ∧
  ∀ a b, fsub a b = fadd a (fneg b)

/-- `fdiv` by a positive finite value: NaN for NaN, the dividend's infinity, else the rounded quotient, whose sign a zero
takes from the dividend (rule R104, which uses the divisors 2^n with 5 <= n <= 20; for the other ones the formula is the
model's choice, log 19). -/
def Obligations.FdivRoundsQuotient : Prop :=
  ∀ n f, (Fl.fin false n f).wf = true → n ≠ 0 →
    fdiv .nan (.fin false n f) = .nan ∧ (∀ s, fdiv (.inf s) (.fin false n f) = .inf s) ∧
    ∀ s m e, (Fl.fin s m e).wf = true →
      RoundsTo ((Fl.fin s m e).toReal / (Fl.fin false n f).toReal) (fdiv (.fin s m e) (.fin false n f)) ∧
      ∀ u, fdiv (.fin s m e) (.fin false n f) = .fin u 0 0 → u = s

/-- `fsqrt`: NaN for NaN and for negative operands, zeros and +inf themselves, else the rounded root (rule R105). -/
def Obligations.FsqrtRoundsRoot : Prop :=
  fsqrt .nan = .nan ∧ fsqrt (.inf false) = .inf false ∧ fsqrt (.inf true) = .nan ∧
  (∀ s, fsqrt (.fin s 0 0) = .fin s 0 0) ∧ (∀ m e, m ≠ 0 → fsqrt (.fin true m e) = .nan) ∧
  ∀ m e, (Fl.fin false m e).wf = true → RoundsTo (Real.sqrt (Fl.fin false m e).toReal) (fsqrt (.fin false m e))

/-- The rotations, in the exact order of operations, each product rounded before it is added (rules R106, R110). -/
def Obligations.RotationsInWrittenOrder : Prop :=
  (∀ a b c s, rotF a b c s = (fadd (fmul a c) (fmul b s), fsub (fmul b c) (fmul a s))) ∧
  (∀ a b c s, rotI a b c s = (fsub (fmul a c) (fmul b s), fadd (fmul b c) (fmul a s))) ∧
  rotF Fl.one Fl.zero (Fl.ofWord (romContents.bcos.getD 4 0)) (Fl.ofWord (romContents.bsin.getD 4 0)) =
    (Fl.ofWord 0x3F3504F3, Fl.ofWord 0xBF3504F3)

/-! ### Twiddles -/

/-- The inverse twiddle: up to div = 1024 it is the forward one (rule R141), and for every div = 2^j up to 2^19 its cosine
is a finite value that is nearest to cos(pi*k/div) among all of them, up to 2^(-100), and exact at k = 0 and k = div/2
(rule R139). That `invCos` is this function, and how near it comes, is the model's (log 12). -/
def Obligations.InverseTwiddleIsForward : Prop :=
  (∀ j k, j ≤ 10 → k < 2 ^ j → twI k (2 ^ j) = twF romContents k (2 ^ j)) ∧
  ∀ j, j ≤ 19 →
    (∀ k, k < 2 ^ j → (invCos k (2 ^ j)).IsFinite ∧
      ∀ y : Fl, y.IsFinite → |(invCos k (2 ^ j)).toReal - Real.cos (Real.pi * k / 2 ^ j)| ≤
        |y.toReal - Real.cos (Real.pi * k / 2 ^ j)| + 1 / 2 ^ 100) ∧
    invCos 0 (2 ^ j) = Fl.one ∧ (1 ≤ j → invCos (2 ^ (j - 1)) (2 ^ j) = Fl.zero)

/-- Every entry of SSIN is the sine derived from the entry of SCOS by the three operations (rule R135). -/
def Obligations.SampleSineIsDerived : Prop :=
  ∀ q, q < 1024 → Fl.ofWord (romContents.ssin.getD q 0) =
    fsqrt (fsub Fl.one (fmul (Fl.ofWord (romContents.scos.getD q 0)) (Fl.ofWord (romContents.scos.getD q 0))))

/-- The sample index: below 1024, exact for div up to 1024, truncating beyond, where div/1024 offsets share an entry
(rule R137). -/
def Obligations.SampleIndexQuantizes : Prop :=
  ∀ j k, k < 2 ^ j → sampleIndex k (2 ^ j) = k * 1024 / 2 ^ j ∧ sampleIndex k (2 ^ j) < 1024 ∧
    (j ≤ 10 → sampleIndex k (2 ^ j) = k * 2 ^ (10 - j)) ∧
    (10 < j → sampleIndex k (2 ^ j) * 2 ^ (j - 10) ≤ k ∧ k < (sampleIndex k (2 ^ j) + 1) * 2 ^ (j - 10))

/-- The derived sine of a cosine of magnitude at most 1 is never negative, never -0 and never a NaN (rules R135, R140). -/
def Obligations.DerivedSineNeverNegative : Prop :=
  ∀ neg sig exp, (Fl.fin neg sig exp).wf = true → sig * 2 ^ exp ≤ 2 ^ 149 →
    ∃ m e, derivedSin (.fin neg sig exp) = .fin false m e

/-- The ROM contents: BCOS and BSIN hold the correctly rounded cosines and sines of 2*pi*m/32 (rule R131), SCOS the
correctly rounded cosines of pi*q/1024 (rule R134), and the words have the symmetries by which quarter-cycle storage
gives the same words (rule R142). -/
def Obligations.RomSymmetries : Prop :=
  (∀ m : Nat, m < 32 →
    RoundsTo (Real.cos (2 * Real.pi * m / 32)) (Fl.ofWord (romWord romContents.bcos m)) ∧
    RoundsTo (Real.sin (2 * Real.pi * m / 32)) (Fl.ofWord (romWord romContents.bsin m)) ∧
    romWord romContents.bsin m = romWord romContents.bcos ((m + 24) % 32) ∧
    romWord romContents.bcos m = romWord romContents.bcos ((32 - m) % 32) ∧
    Fl.ofWord (romWord romContents.bcos m) =
      (if m = 8 ∨ m = 24 then Fl.zero else fneg (Fl.ofWord (romWord romContents.bcos ((48 - m) % 32))))) ∧
  (∀ q : Nat, q < 1024 → RoundsTo (Real.cos (Real.pi * q / 1024)) (Fl.ofWord (romWord romContents.scos q))) ∧
  ∀ q, 1 ≤ q → q < 1024 → romWord romContents.ssin q = romWord romContents.ssin (1024 - q) ∧
    Fl.ofWord (romWord romContents.scos q) =
      (if q = 512 then Fl.zero else fneg (Fl.ofWord (romWord romContents.scos (1024 - q))))

/-! ### The sequencer and whole commands -/

/-- Tail: another stage while STAGE < M, else COPYBACK while the live bank is S, else NORMALIZE for an inverse command,
else completion; nothing else changes (rules R240, R241). -/
def Obligations.TailChoosesNextPhase : Prop :=
  ∀ s : State, s.tail =
    if s.stage.toNat < s.nLat.log2 - 5 then
      { s with phase := match s.dir with
        | .fwd => .mergeFwd
        | .inv => .mergeInv }
    else if s.role = .s then { s with phase := .copyback }
    else if s.dir = .inv then { s with phase := .normalize }
    else { s with busy := false, done := true, phase := .idle }

/-- With no host event pending, a command whose lengths pass VALIDATE takes exactly 2 + N/32 + M + c + d steps: BUSY stays 1 before the
last of them, which completes it with DONE = 1, ERR = 0, STAGE = M, ROLE = X (rules R240, R241, R198). -/
def Obligations.CommandTakesExactSteps : Prop :=
  ∀ (s : State) (k : Nat), s.Inv → s.phase = .validate → s.host = [] → s.lenRe = s.lenIm → s.lenRe.toNat = 2 ^ k →
    5 ≤ k → k ≤ s.cfg.log2Nmax →
    (∃ t, Host.Core.run Sys2Proof.core (commandSteps s.dir k) s = .next t ∧ t.busy = false ∧ t.done = true ∧
      t.err = .none ∧ t.phase = .idle ∧ t.role = .x ∧ t.stage.toNat = k - 5 ∧ t.nLat = 2 ^ k) ∧
    ∀ j, j < commandSteps s.dir k → ∃ u, Host.Core.run Sys2Proof.core j s = .next u ∧ u.busy = true

/-- A sequencer step, with no host event pending or at a pending turn, changes no word at or above N of any bank (rules
R30, R32, R193). -/
def Obligations.WordsAboveLengthKept : Prop :=
  ∀ s t : State, s.Inv → (s.host = [] ∨ ∃ rest, s.host = .turn :: rest) → step s = .next t →
    ∀ (b : BankId) (i : Nat), s.nLat ≤ i → t.readWord b i = s.readWord b i

/-- The result of a command depends on the input values, N, the direction and the backend only, up to the patterns of
NaNs: not on the scratch contents, the order of the BASE steps, NUM_LANES, NMAX or earlier commands (rule R248). -/
def Obligations.ResultIgnoresScratchAndSchedule : Prop :=
  ∀ (s s' t t' : State) (k : Nat), s.Inv → s'.Inv → s.phase = .permute → s'.phase = .permute → s.host = [] →
    s'.host = [] → s'.cfg.backend = s.cfg.backend → s'.dir = s.dir → s.nLat = 2 ^ k → s'.nLat = 2 ^ k →
    (∀ i, i < 2 ^ k → s'.readPair .x i = s.readPair .x i) →
    Host.Core.run Sys2Proof.core (commandSteps s.dir k - 1) s = .next t →
    Host.Core.run Sys2Proof.core (commandSteps s.dir k - 1) s' = .next t' →
    ∀ i, i < 2 ^ k → t'.readPair .x i = t.readPair .x i
end

