-- ==== Sys2Proof/Laws/Bank.lean ====
section
/-! SUPPORT. The banks: what a lookup gives after a splice, and that every operation on a bank keeps the canonical form
and the bound NMAX. -/

namespace Sys2Proof.Machine

@[simp] theorem bankLookup_nil (i : Nat) : bankLookup i [] = none := rfl

theorem bankLookup_cons (i : Nat) (c : Nat × Word) (cs : Bank) :
    bankLookup i (c :: cs) = if c.1 = i then some c.2 else bankLookup i cs := by
  rw [bankLookup]
  by_cases h : c.1 = i
  · simp [h]
  · have hb : Nat.beq c.1 i = false := by
      rw [Bool.eq_false_iff]; intro hc; exact h (Nat.eq_of_beq_eq_true hc)
    simp [hb, h]

theorem bankLookup_append (i : Nat) (b c : Bank) :
    bankLookup i (b ++ c) = (bankLookup i b).or (bankLookup i c) := by
  induction b with
  | nil => simp
  | cons x xs ih =>
    simp only [List.cons_append, bankLookup_cons]
    split <;> simp_all

/-- A lookup in a filtered bank, for a filter that looks at the index only. -/
theorem bankLookup_filter (p : Nat → Bool) (i : Nat) (b : Bank) :
    bankLookup i (b.filter (fun c => p c.1)) = if p i then bankLookup i b else none := by
  induction b with
  | nil => simp
  | cons x xs ih =>
    by_cases hx : p x.1
    · simp only [List.filter_cons, hx, if_true, bankLookup_cons, ih]
      split
      · next h => subst h; simp [hx]
      · rfl
    · simp only [List.filter_cons, hx, if_false, bankLookup_cons, ih, Bool.false_eq_true]
      by_cases hxi : x.1 = i
      · subst hxi; simp [hx]
      · simp [hxi]

theorem bankLookup_cellsFrom (ws : List Word) (lo i : Nat) :
    bankLookup i (cellsFrom lo ws) = if lo ≤ i then ws[i - lo]? else none := by
  induction ws generalizing lo with
  | nil => simp [cellsFrom]
  | cons w ws ih =>
    rw [cellsFrom, bankLookup_cons, ih]
    rcases Nat.lt_trichotomy lo i with h | h | h
    · have h1 : ¬ lo = i := by omega
      have h2 : i - lo = (i - (lo + 1)) + 1 := by omega
      rw [if_neg h1, if_pos (by omega), if_pos (by omega), h2]
      simp
    · subst h; simp
    · have h1 : ¬ lo = i := by omega
      rw [if_neg h1, if_neg (by omega), if_neg (by omega)]

/-- A splice gives its words at their indices and leaves every other index alone. -/
theorem bankLookup_splice (lo : Nat) (ws : List Word) (b : Bank) (i : Nat) :
    bankLookup i (bankSplice lo ws b) =
      if lo ≤ i ∧ i < lo + ws.length then ws[i - lo]? else bankLookup i b := by
  have hl := bankLookup_filter (fun n => n.blt lo) i b
  have hr := bankLookup_filter (fun n => (lo + ws.length).ble n) i b
  rw [bankSplice, bankLookup_append, bankLookup_append, hl, hr, bankLookup_cellsFrom]
  rcases Nat.lt_or_ge i lo with h | h
  · have h1 : Nat.blt i lo = true := by simpa using h
    have h2 : Nat.ble (lo + ws.length) i = false := by
      rw [Bool.eq_false_iff]; intro hc; have := Nat.le_of_ble_eq_true hc; omega
    rw [if_neg (by omega : ¬ (lo ≤ i ∧ i < lo + ws.length))]
    simp [h1, h2, Nat.not_le.mpr h]
  · have h1 : Nat.blt i lo = false := by
      rw [Bool.eq_false_iff]; intro hc
      have : i < lo := by simpa [Nat.blt_eq] using hc
      omega
    rcases Nat.lt_or_ge i (lo + ws.length) with h' | h'
    · have h2 : Nat.ble (lo + ws.length) i = false := by
        rw [Bool.eq_false_iff]; intro hc; have := Nat.le_of_ble_eq_true hc; omega
      simp [h1, h2, h, h']
    · have h2 : Nat.ble (lo + ws.length) i = true := Nat.ble_eq_true_of_le h'
      have h3 : ws[i - lo]? = none := by
        rw [List.getElem?_eq_none_iff]; omega
      simp [h1, h2, h, h3, Nat.not_lt.mpr h']

theorem mem_cellsFrom {ws : List Word} {lo : Nat} {c : Nat × Word} (h : c ∈ cellsFrom lo ws) :
    lo ≤ c.1 ∧ c.1 < lo + ws.length := by
  induction ws generalizing lo with
  | nil => simp [cellsFrom] at h
  | cons w ws ih =>
    rw [cellsFrom, List.mem_cons] at h
    rcases h with h | h
    · subst h; simp
    · have := ih h; simp only [List.length_cons]; omega

theorem cellsFrom_wf (lo : Nat) (ws : List Word) : Bank.wf (cellsFrom lo ws) := by
  induction ws generalizing lo with
  | nil => exact List.Pairwise.nil
  | cons w ws ih =>
    rw [cellsFrom]
    refine List.pairwise_cons.mpr ⟨fun c hc => ?_, ih (lo + 1)⟩
    have := mem_cellsFrom hc
    show lo < c.1
    omega

/-- A splice keeps the canonical form of a bank. -/
theorem bankSplice_wf (lo : Nat) (ws : List Word) {b : Bank} (h : b.wf) : (bankSplice lo ws b).wf := by
  unfold bankSplice Bank.wf
  refine List.pairwise_append.mpr ⟨List.Pairwise.filter _ h, List.pairwise_append.mpr
    ⟨cellsFrom_wf lo ws, List.Pairwise.filter _ h, ?_⟩, ?_⟩
  · intro c hc d hd
    have h1 := mem_cellsFrom hc
    have h2 := Nat.le_of_ble_eq_true (List.mem_filter.mp hd).2
    omega
  · intro c hc d hd
    have h1 : c.1 < lo := by simpa [Nat.blt_eq] using (List.mem_filter.mp hc).2
    rcases List.mem_append.mp hd with hd | hd
    · have h2 := mem_cellsFrom hd
      omega
    · have h2 := Nat.le_of_ble_eq_true (List.mem_filter.mp hd).2
      omega

/-- A splice below NMAX keeps a bank inside NMAX. -/
theorem bankSplice_within (nmax lo : Nat) (ws : List Word) {b : Bank} (h : bankWithin nmax b)
    (hw : lo + ws.length ≤ nmax) : bankWithin nmax (bankSplice lo ws b) := by
  intro c hc
  rw [bankSplice, List.mem_append, List.mem_append] at hc
  rcases hc with hc | hc | hc
  · exact h c (List.mem_filter.mp hc).1
  · have := mem_cellsFrom hc; omega
  · exact h c (List.mem_filter.mp hc).1

theorem bankWithin_nil (nmax : Nat) : bankWithin nmax [] := by
  intro c hc; cases hc

/-- The banks of the reset state are canonical and inside NMAX. -/
theorem resetOf_banksOk (cfg : Params) : (State.resetOf cfg).BanksOk := by
  intro b
  cases b <;> exact ⟨List.Pairwise.nil, bankWithin_nil _⟩

@[simp] theorem storeWords_length (draw bank : Nat) (vs : List Fl) (i : Nat) :
    (storeWords draw bank i vs).length = vs.length := by
  induction vs generalizing i with
  | nil => rfl
  | cons v vs ih => simp [storeWords, ih]

theorem storeWords_getElem? (draw bank : Nat) (vs : List Fl) (i j : Nat) :
    (storeWords draw bank i vs)[j]? =
      vs[j]?.map (fun v => v.toWord (nanWord (Config.nanPattern draw bank (i + j)))) := by
  induction vs generalizing i j with
  | nil => simp [storeWords]
  | cons v vs ih =>
    cases j with
    | zero => simp [storeWords]
    | succ j => simp [storeWords, ih, Nat.add_assoc, Nat.add_comm 1 j]

end Sys2Proof.Machine
end

