-- ==== Sys2Proof/Laws/Float.lean ====
section
/-! SUPPORT. The arithmetic: every operation gives a value binary32 has, and words and values convert back and forth. -/

namespace Sys2Proof.Machine

theorem bitLogStep_spec {k : Nat} {lower : Nat → Nat}
    (h : ∀ n, 0 < n → n < 2 ^ k → 2 ^ lower n ≤ n ∧ n < 2 ^ (lower n + 1)) :
    ∀ n, 0 < n → n < 2 ^ (k + k) → 2 ^ bitLogStep k lower n ≤ n ∧ n < 2 ^ (bitLogStep k lower n + 1) := by
  intro n hn hlt
  have hk : 0 < 2 ^ k := Nat.two_pow_pos k
  unfold bitLogStep
  rw [Nat.one_shiftLeft, Nat.shiftRight_eq_div_pow]
  by_cases hb : 2 ^ k ≤ n
  · have hq : 0 < n / 2 ^ k := Nat.div_pos hb hk
    have hq2 : n / 2 ^ k < 2 ^ k := by
      rw [Nat.div_lt_iff_lt_mul hk, ← Nat.pow_add]; exact hlt
    obtain ⟨h1, h2⟩ := h _ hq hq2
    rw [Nat.ble_eq_true_of_le hb, cond_true]
    constructor
    · rw [Nat.pow_add, Nat.mul_comm]
      exact (Nat.le_div_iff_mul_le hk).mp h1
    · rw [Nat.add_assoc, Nat.pow_add, Nat.mul_comm]
      exact (Nat.div_lt_iff_lt_mul hk).mp h2
  · have hb' : Nat.ble (2 ^ k) n = false := by
      rw [Bool.eq_false_iff]; intro hc; exact hb (Nat.le_of_ble_eq_true hc)
    rw [hb', cond_false]
    exact h n hn (by omega)

/-- `bitLog` is the position of the highest bit, below 2^1024. -/
theorem bitLog_spec (n : Nat) (hn : 0 < n) (hlt : n < 2 ^ 1024) : 2 ^ bitLog n ≤ n ∧ n < 2 ^ (bitLog n + 1) := by
  have h1 : ∀ n, 0 < n → n < 2 ^ 1 → 2 ^ (fun _ => 0 : Nat → Nat) n ≤ n ∧ n < 2 ^ ((fun _ => 0 : Nat → Nat) n + 1) := by
    intro n h h'; simp; omega
  exact bitLogStep_spec (bitLogStep_spec (bitLogStep_spec (bitLogStep_spec (bitLogStep_spec (bitLogStep_spec
    (bitLogStep_spec (bitLogStep_spec (bitLogStep_spec (bitLogStep_spec h1))))))))) n hn hlt

theorem bitLog_zero : bitLog 0 = 0 := by decide

theorem le_bitLogStep {k : Nat} {lower : Nat → Nat} {n : Nat} (h : 2 ^ k ≤ n) : k ≤ bitLogStep k lower n := by
  unfold bitLogStep
  rw [Nat.one_shiftLeft, Nat.ble_eq_true_of_le h, cond_true]
  exact Nat.le_add_right _ _

/-- Past 2^512 the logarithm is at least 512, however large the number. -/
theorem le_bitLog {n : Nat} (h : 2 ^ 512 ≤ n) : 512 ≤ bitLog n := le_bitLogStep h

/-- `roundHalfEven` lies next to the quotient. -/
theorem roundHalfEven_bounds (num den : Nat) :
    num / den ≤ roundHalfEven num den ∧ roundHalfEven num den ≤ num / den + 1 := by
  unfold roundHalfEven
  cases (2 * (num % den)).blt den <;> cases den.blt (2 * (num % den)) <;> simp only [cond_true, cond_false] <;> omega

theorem packFl_wf {neg : Bool} {sig exp : Nat} (h : sig < 16777216) (h' : exp = 0 ∨ 8388608 ≤ sig) :
    (packFl neg sig exp).wf = true := by
  unfold packFl
  by_cases hb : 254 ≤ exp
  · rw [Nat.ble_eq_true_of_le hb]; rfl
  · have hb' : Nat.ble 254 exp = false := by
      rw [Bool.eq_false_iff]; intro hc; exact hb (Nat.le_of_ble_eq_true hc)
    rw [hb', cond_false]
    have : exp ≤ 253 := by omega
    simp only [Fl.wf, Bool.and_eq_true, Bool.or_eq_true, beq_iff_eq, Nat.blt_eq, Nat.ble_eq]
    exact ⟨⟨h, h'⟩, this⟩

theorem cond_wf {c : Bool} {a b : Fl} (ha : a.wf = true) (hb : b.wf = true) : (bif c then a else b).wf = true := by
  cases c
  · exact hb
  · exact ha

/-- Rounding gives a value binary32 has. -/
theorem rn32_wf (neg : Bool) (num den : Nat) : (rn32 neg num den).wf = true := by
  unfold rn32
  generalize hq : num / den = q
  simp only
  by_cases hbig : 2 ^ 512 ≤ q
  · have hexp : 254 ≤ bitLog q - 23 := by have := le_bitLog hbig; omega
    have h1 : ∀ sig, packFl neg sig (bitLog q - 23) = .inf neg := by
      intro sig; unfold packFl; rw [Nat.ble_eq_true_of_le hexp]; rfl
    have h2 : ∀ sig, packFl neg sig (bitLog q - 23 + 1) = .inf neg := by
      intro sig; unfold packFl; rw [Nat.ble_eq_true_of_le (by omega)]; rfl
    rw [h1, h2]
    exact cond_wf rfl rfl
  · have hb := roundHalfEven_bounds num (den <<< (bitLog q - 23))
    rw [Nat.shiftLeft_eq, ← Nat.div_div_eq_div_mul, hq] at hb
    rw [Nat.shiftLeft_eq]
    have hle : q / 2 ^ (bitLog q - 23) < 16777216 ∧ (bitLog q - 23 = 0 ∨ 8388608 ≤ q / 2 ^ (bitLog q - 23)) := by
      rcases Nat.eq_zero_or_pos q with h0 | h0
      · subst h0; rw [bitLog_zero]; simp
      · have h512 : q < 2 ^ 1024 := lt_of_lt_of_le (not_le.mp hbig) (Nat.pow_le_pow_right (by omega) (by omega))
        obtain ⟨h1, h2⟩ := bitLog_spec q h0 h512
        rcases Nat.le_total (bitLog q) 23 with h23 | h23
        · have he : bitLog q - 23 = 0 := by omega
          rw [he, Nat.pow_zero, Nat.div_one]
          refine ⟨lt_of_lt_of_le h2 ?_, Or.inl rfl⟩
          calc 2 ^ (bitLog q + 1) ≤ 2 ^ 24 := Nat.pow_le_pow_right (by omega) (by omega)
            _ = 16777216 := by norm_num
        · obtain ⟨e, he⟩ : ∃ e, bitLog q = 23 + e := ⟨bitLog q - 23, by omega⟩
          have he' : bitLog q - 23 = e := by omega
          rw [he'] ; rw [he] at h1 h2
          have hp : 0 < 2 ^ e := Nat.two_pow_pos e
          refine ⟨?_, Or.inr ?_⟩
          · rw [Nat.div_lt_iff_lt_mul hp]
            calc q < 2 ^ (23 + e + 1) := h2
              _ = 16777216 * 2 ^ e := by rw [show 23 + e + 1 = 24 + e by omega, Nat.pow_add]
          · rw [Nat.le_div_iff_mul_le hp]
            calc 8388608 * 2 ^ e = 2 ^ (23 + e) := by rw [Nat.pow_add]
              _ ≤ q := h1
    by_cases hs : roundHalfEven num (den * 2 ^ (bitLog q - 23)) = 16777216
    · rw [hs]
      exact packFl_wf (by norm_num) (Or.inr (by norm_num))
    · have hs' : (roundHalfEven num (den * 2 ^ (bitLog q - 23)) == 16777216) = false := by simpa using hs
      rw [hs', cond_false]
      refine packFl_wf (by omega) ?_
      rcases hle.2 with h | h
      · exact Or.inl h
      · exact Or.inr (by omega)

theorem fmul_wf (a b : Fl) : (fmul a b).wf = true := by
  unfold fmul
  split <;> first | rfl | exact rn32_wf _ _ _ | exact cond_wf rfl rfl

theorem fadd_wf (a b : Fl) : (fadd a b).wf = true := by
  unfold fadd
  split <;> try rfl
  · next s t => cases s <;> cases t <;> rfl
  · next s m e t n f =>
    simp only
    cases s ^^ t <;> simp only [cond_true, cond_false]
    · exact rn32_wf _ _ _
    · cases (m <<< e == n <<< f) <;> simp only [cond_true, cond_false]
      · cases (n <<< f).blt (m <<< e) <;> simp only [cond_true, cond_false] <;> exact rn32_wf _ _ _
      · rfl

theorem fsub_wf (a b : Fl) : (fsub a b).wf = true := fadd_wf _ _

theorem fdiv_wf (a b : Fl) : (fdiv a b).wf = true := by
  unfold fdiv
  split <;> try rfl
  next s m e n f =>
    cases (n == 0) <;> simp only [cond_true, cond_false]
    · exact rn32_wf _ _ _
    · rfl

theorem fsqrt_wf (a : Fl) : (fsqrt a).wf = true := by
  unfold fsqrt
  split
  · rfl
  · next s => cases s <;> rfl
  · next s m e =>
    cases (m == 0) <;> simp only [cond_true, cond_false]
    · cases s <;> simp only [cond_true, cond_false]
      · exact rn32_wf _ _ _
      · rfl
    · rfl

theorem rotF_wf (a b c s : Fl) : (rotF a b c s).1.wf = true ∧ (rotF a b c s).2.wf = true :=
  ⟨fadd_wf _ _, fsub_wf _ _⟩

theorem rotI_wf (a b c s : Fl) : (rotI a b c s).1.wf = true ∧ (rotI a b c s).2.wf = true :=
  ⟨fsub_wf _ _, fadd_wf _ _⟩

theorem reduceSeqFrom_wf {acc : Fl} (h : acc.wf = true) (ts : List Fl) : (reduceSeqFrom acc ts).wf = true := by
  induction ts generalizing acc with
  | nil => exact h
  | cons t ts ih => exact ih (fadd_wf _ _)

theorem reduceVec4From_wf {acc : Fl} (h : acc.wf = true) (ts : List Fl) : (reduceVec4From acc ts).wf = true := by
  induction acc, ts using reduceVec4From.induct with
  | case1 acc a b c d ts ih => exact ih (fadd_wf _ _)
  | case2 acc ts hts => rw [reduceVec4From]; exact h; exact hts

theorem reduce_wf (o : Order) (ts : List Fl) : (reduce o ts).wf = true := by
  cases o
  · exact reduceSeqFrom_wf rfl ts
  · exact reduceVec4From_wf rfl ts

/-- The value of a word, by its fields (rule R100). -/
theorem ofWord_eq (w : Word) :
    Fl.ofWord w =
      if w.toNat / 8388608 % 256 = 255 then
        (if w.toNat % 8388608 = 0 then .inf (decide (2147483648 ≤ w.toNat)) else .nan)
      else if w.toNat / 8388608 % 256 = 0 then .fin (decide (2147483648 ≤ w.toNat)) (w.toNat % 8388608) 0
      else .fin (decide (2147483648 ≤ w.toNat)) (8388608 + w.toNat % 8388608) (w.toNat / 8388608 % 256 - 1) := by
  have hn : Nat.ble 2147483648 w.toNat = decide (2147483648 ≤ w.toNat) := by
    by_cases h : 2147483648 ≤ w.toNat
    · rw [Nat.ble_eq_true_of_le h, decide_eq_true h]
    · rw [decide_eq_false h, Bool.eq_false_iff]; intro hc; exact h (Nat.le_of_ble_eq_true hc)
  simp only [Fl.ofWord, hn, Bool.cond_eq_ite, beq_iff_eq]

/-- A word stands for a value binary32 has. -/
theorem ofWord_wf (w : Word) : (Fl.ofWord w).wf = true := by
  rw [ofWord_eq]
  have h1 : w.toNat % 8388608 < 8388608 := Nat.mod_lt _ (by norm_num)
  have h2 : w.toNat / 8388608 % 256 < 256 := Nat.mod_lt _ (by norm_num)
  split
  · split <;> rfl
  · split
    · simp only [Fl.wf, Bool.and_eq_true, Bool.or_eq_true, beq_iff_eq, Nat.blt_eq, Nat.ble_eq]
      exact ⟨⟨by omega, Or.inl trivial⟩, by omega⟩
    · simp only [Fl.wf, Bool.and_eq_true, Bool.or_eq_true, beq_iff_eq, Nat.blt_eq, Nat.ble_eq]
      omega

theorem signBit_eq (neg : Bool) : signBit neg = if neg then 2147483648 else 0 := by
  cases neg <;> rfl

/-- A drawn NaN pattern is a NaN (rule R107). -/
theorem ofWord_nanWord (p : Bool × Fin 8388607) : Fl.ofWord (nanWord p) = .nan := by
  obtain ⟨b, f, hf⟩ := p
  have hn : (nanWord (b, ⟨f, hf⟩)).toNat = (if b then 2147483648 else 0) + 2139095040 + (f + 1) := by
    have h0 : (f + 1) % 8388608 = f + 1 := Nat.mod_eq_of_lt (by omega)
    rw [nanWord, BitVec.toNat_append, BitVec.toNat_append, BitVec.toNat_ofNat, BitVec.toNat_ofNat, BitVec.toNat_ofBool]
    show ((b.toNat <<< 8 ||| 255) <<< 23 ||| (f + 1) % 8388608) = _
    rw [h0, ← Nat.shiftLeft_add_eq_or_of_lt (by omega : f + 1 < 2 ^ 23)]
    cases b <;> simp [Nat.shiftLeft_eq]
  rw [ofWord_eq, hn]
  cases b <;> simp only [if_true, if_false, Bool.false_eq_true]
  · rw [if_pos (by omega), if_neg (by omega)]
  · rw [if_pos (by omega), if_neg (by omega)]

/-- Storing a value and reading it back: a NaN comes back as a NaN, every other value as itself. -/
theorem ofWord_toWord (p : Bool × Fin 8388607) {v : Fl} (h : v.wf = true) :
    Fl.ofWord (v.toWord (nanWord p)) = v := by
  cases v with
  | nan => exact ofWord_nanWord p
  | inf neg => cases neg <;> (rw [Fl.toWord]; decide)
  | fin neg sig exp =>
    simp only [Fl.wf, Bool.and_eq_true, Bool.or_eq_true, beq_iff_eq, Nat.blt_eq, Nat.ble_eq] at h
    obtain ⟨⟨h1, h2⟩, h3⟩ := h
    have hn : (Fl.toWord (nanWord p) (.fin neg sig exp)).toNat
        = (if neg then 2147483648 else 0) + exp * 8388608 + sig := by
      rw [Fl.toWord, BitVec.toNat_ofNat, signBit_eq]
      apply Nat.mod_eq_of_lt
      cases neg <;> simp <;> omega
    rw [ofWord_eq, hn]
    cases neg <;> simp only [if_true, if_false, Bool.false_eq_true]
    · rcases Nat.lt_or_ge sig 8388608 with hs | hs
      · have he : exp = 0 := by omega
        subst he
        rw [if_neg (by omega), if_pos (by omega), decide_eq_false (by omega)]
        congr 1; omega
      · rw [if_neg (by omega), if_neg (by omega), decide_eq_false (by omega)]
        congr 1 <;> omega
    · rcases Nat.lt_or_ge sig 8388608 with hs | hs
      · have he : exp = 0 := by omega
        subst he
        rw [if_neg (by omega), if_pos (by omega), decide_eq_true (by omega)]
        congr 1; omega
      · rw [if_neg (by omega), if_neg (by omega), decide_eq_true (by omega)]
        congr 1 <;> omega

end Sys2Proof.Machine
end

