-- ==== Sys2Proof/Laws/State.lean ====
section
/-! SUPPORT. One lemma per field of the state for each named update of it, so that no proof unfolds an update. -/

namespace Sys2Proof.Machine

@[simp] theorem refuseAccess_cfg (s : State) : s.refuseAccess.cfg = s.cfg := rfl
@[simp] theorem refuseAccess_ie (s : State) : s.refuseAccess.ie = s.ie := rfl
@[simp] theorem refuseAccess_busy (s : State) : s.refuseAccess.busy = s.busy := rfl
@[simp] theorem refuseAccess_done (s : State) : s.refuseAccess.done = s.done := rfl
@[simp] theorem refuseAccess_dir (s : State) : s.refuseAccess.dir = s.dir := rfl
@[simp] theorem refuseAccess_err (s : State) : s.refuseAccess.err = s.err := rfl
@[simp] theorem refuseAccess_phase (s : State) : s.refuseAccess.phase = s.phase := rfl
@[simp] theorem refuseAccess_stage (s : State) : s.refuseAccess.stage = s.stage := rfl
@[simp] theorem refuseAccess_ovr (s : State) : s.refuseAccess.ovr = s.ovr := rfl
@[simp] theorem refuseAccess_accerr (s : State) : s.refuseAccess.accerr = true := rfl
@[simp] theorem refuseAccess_lenRe (s : State) : s.refuseAccess.lenRe = s.lenRe := rfl
@[simp] theorem refuseAccess_lenIm (s : State) : s.refuseAccess.lenIm = s.lenIm := rfl
@[simp] theorem refuseAccess_xr (s : State) : s.refuseAccess.xr = s.xr := rfl
@[simp] theorem refuseAccess_xi (s : State) : s.refuseAccess.xi = s.xi := rfl
@[simp] theorem refuseAccess_sr (s : State) : s.refuseAccess.sr = s.sr := rfl
@[simp] theorem refuseAccess_si (s : State) : s.refuseAccess.si = s.si := rfl
@[simp] theorem refuseAccess_rom (s : State) : s.refuseAccess.rom = s.rom := rfl
@[simp] theorem refuseAccess_nLat (s : State) : s.refuseAccess.nLat = s.nLat := rfl
@[simp] theorem refuseAccess_role (s : State) : s.refuseAccess.role = s.role := rfl
@[simp] theorem refuseAccess_cursor (s : State) : s.refuseAccess.cursor = s.cursor := rfl
@[simp] theorem refuseAccess_picks (s : State) : s.refuseAccess.picks = s.picks := rfl
@[simp] theorem refuseAccess_host (s : State) : s.refuseAccess.host = s.host := rfl
@[simp] theorem refuseAccess_rdata (s : State) : s.refuseAccess.rdata = s.rdata := rfl
@[simp] theorem refuseAccess_draws (s : State) : s.refuseAccess.draws = s.draws := rfl
@[simp] theorem refuseAccess_epoch (s : State) : s.refuseAccess.epoch = s.epoch := rfl

@[simp] theorem overrun_cfg (s : State) : s.overrun.cfg = s.cfg := rfl
@[simp] theorem overrun_ie (s : State) : s.overrun.ie = s.ie := rfl
@[simp] theorem overrun_busy (s : State) : s.overrun.busy = s.busy := rfl
@[simp] theorem overrun_done (s : State) : s.overrun.done = s.done := rfl
@[simp] theorem overrun_dir (s : State) : s.overrun.dir = s.dir := rfl
@[simp] theorem overrun_err (s : State) : s.overrun.err = s.err := rfl
@[simp] theorem overrun_phase (s : State) : s.overrun.phase = s.phase := rfl
@[simp] theorem overrun_stage (s : State) : s.overrun.stage = s.stage := rfl
@[simp] theorem overrun_ovr (s : State) : s.overrun.ovr = true := rfl
@[simp] theorem overrun_accerr (s : State) : s.overrun.accerr = s.accerr := rfl
@[simp] theorem overrun_lenRe (s : State) : s.overrun.lenRe = s.lenRe := rfl
@[simp] theorem overrun_lenIm (s : State) : s.overrun.lenIm = s.lenIm := rfl
@[simp] theorem overrun_xr (s : State) : s.overrun.xr = s.xr := rfl
@[simp] theorem overrun_xi (s : State) : s.overrun.xi = s.xi := rfl
@[simp] theorem overrun_sr (s : State) : s.overrun.sr = s.sr := rfl
@[simp] theorem overrun_si (s : State) : s.overrun.si = s.si := rfl
@[simp] theorem overrun_rom (s : State) : s.overrun.rom = s.rom := rfl
@[simp] theorem overrun_nLat (s : State) : s.overrun.nLat = s.nLat := rfl
@[simp] theorem overrun_role (s : State) : s.overrun.role = s.role := rfl
@[simp] theorem overrun_cursor (s : State) : s.overrun.cursor = s.cursor := rfl
@[simp] theorem overrun_picks (s : State) : s.overrun.picks = s.picks := rfl
@[simp] theorem overrun_host (s : State) : s.overrun.host = s.host := rfl
@[simp] theorem overrun_rdata (s : State) : s.overrun.rdata = s.rdata := rfl
@[simp] theorem overrun_draws (s : State) : s.overrun.draws = s.draws := rfl
@[simp] theorem overrun_epoch (s : State) : s.overrun.epoch = s.epoch := rfl

@[simp] theorem acceptCommand_cfg (d : Dir) (s : State) : (s.acceptCommand d).cfg = s.cfg := rfl
@[simp] theorem acceptCommand_ie (d : Dir) (s : State) : (s.acceptCommand d).ie = s.ie := rfl
@[simp] theorem acceptCommand_busy (d : Dir) (s : State) : (s.acceptCommand d).busy = true := rfl
@[simp] theorem acceptCommand_done (d : Dir) (s : State) : (s.acceptCommand d).done = false := rfl
@[simp] theorem acceptCommand_dir (d : Dir) (s : State) : (s.acceptCommand d).dir = d := rfl
@[simp] theorem acceptCommand_err (d : Dir) (s : State) : (s.acceptCommand d).err = .none := rfl
@[simp] theorem acceptCommand_phase (d : Dir) (s : State) : (s.acceptCommand d).phase = .validate := rfl
@[simp] theorem acceptCommand_stage (d : Dir) (s : State) : (s.acceptCommand d).stage = 0#5 := rfl
@[simp] theorem acceptCommand_ovr (d : Dir) (s : State) : (s.acceptCommand d).ovr = s.ovr := rfl
@[simp] theorem acceptCommand_accerr (d : Dir) (s : State) : (s.acceptCommand d).accerr = s.accerr := rfl
@[simp] theorem acceptCommand_lenRe (d : Dir) (s : State) : (s.acceptCommand d).lenRe = s.lenRe := rfl
@[simp] theorem acceptCommand_lenIm (d : Dir) (s : State) : (s.acceptCommand d).lenIm = s.lenIm := rfl
@[simp] theorem acceptCommand_xr (d : Dir) (s : State) : (s.acceptCommand d).xr = s.xr := rfl
@[simp] theorem acceptCommand_xi (d : Dir) (s : State) : (s.acceptCommand d).xi = s.xi := rfl
@[simp] theorem acceptCommand_sr (d : Dir) (s : State) : (s.acceptCommand d).sr = s.sr := rfl
@[simp] theorem acceptCommand_si (d : Dir) (s : State) : (s.acceptCommand d).si = s.si := rfl
@[simp] theorem acceptCommand_rom (d : Dir) (s : State) : (s.acceptCommand d).rom = s.rom := rfl
@[simp] theorem acceptCommand_nLat (d : Dir) (s : State) : (s.acceptCommand d).nLat = s.nLat := rfl
@[simp] theorem acceptCommand_role (d : Dir) (s : State) : (s.acceptCommand d).role = s.role := rfl
@[simp] theorem acceptCommand_cursor (d : Dir) (s : State) : (s.acceptCommand d).cursor = [] := rfl
@[simp] theorem acceptCommand_picks (d : Dir) (s : State) : (s.acceptCommand d).picks = s.picks := rfl
@[simp] theorem acceptCommand_host (d : Dir) (s : State) : (s.acceptCommand d).host = s.host := rfl
@[simp] theorem acceptCommand_rdata (d : Dir) (s : State) : (s.acceptCommand d).rdata = s.rdata := rfl
@[simp] theorem acceptCommand_draws (d : Dir) (s : State) : (s.acceptCommand d).draws = s.draws := rfl
@[simp] theorem acceptCommand_epoch (d : Dir) (s : State) : (s.acceptCommand d).epoch = s.epoch := rfl

@[simp] theorem refuseBadCommand_cfg (s : State) : s.refuseBadCommand.cfg = s.cfg := rfl
@[simp] theorem refuseBadCommand_ie (s : State) : s.refuseBadCommand.ie = s.ie := rfl
@[simp] theorem refuseBadCommand_busy (s : State) : s.refuseBadCommand.busy = s.busy := rfl
@[simp] theorem refuseBadCommand_done (s : State) : s.refuseBadCommand.done = true := rfl
@[simp] theorem refuseBadCommand_dir (s : State) : s.refuseBadCommand.dir = s.dir := rfl
@[simp] theorem refuseBadCommand_err (s : State) : s.refuseBadCommand.err = .badCommand := rfl
@[simp] theorem refuseBadCommand_phase (s : State) : s.refuseBadCommand.phase = s.phase := rfl
@[simp] theorem refuseBadCommand_stage (s : State) : s.refuseBadCommand.stage = 0#5 := rfl
@[simp] theorem refuseBadCommand_ovr (s : State) : s.refuseBadCommand.ovr = s.ovr := rfl
@[simp] theorem refuseBadCommand_accerr (s : State) : s.refuseBadCommand.accerr = s.accerr := rfl
@[simp] theorem refuseBadCommand_lenRe (s : State) : s.refuseBadCommand.lenRe = s.lenRe := rfl
@[simp] theorem refuseBadCommand_lenIm (s : State) : s.refuseBadCommand.lenIm = s.lenIm := rfl
@[simp] theorem refuseBadCommand_xr (s : State) : s.refuseBadCommand.xr = s.xr := rfl
@[simp] theorem refuseBadCommand_xi (s : State) : s.refuseBadCommand.xi = s.xi := rfl
@[simp] theorem refuseBadCommand_sr (s : State) : s.refuseBadCommand.sr = s.sr := rfl
@[simp] theorem refuseBadCommand_si (s : State) : s.refuseBadCommand.si = s.si := rfl
@[simp] theorem refuseBadCommand_rom (s : State) : s.refuseBadCommand.rom = s.rom := rfl
@[simp] theorem refuseBadCommand_nLat (s : State) : s.refuseBadCommand.nLat = s.nLat := rfl
@[simp] theorem refuseBadCommand_role (s : State) : s.refuseBadCommand.role = s.role := rfl
@[simp] theorem refuseBadCommand_cursor (s : State) : s.refuseBadCommand.cursor = s.cursor := rfl
@[simp] theorem refuseBadCommand_picks (s : State) : s.refuseBadCommand.picks = s.picks := rfl
@[simp] theorem refuseBadCommand_host (s : State) : s.refuseBadCommand.host = s.host := rfl
@[simp] theorem refuseBadCommand_rdata (s : State) : s.refuseBadCommand.rdata = s.rdata := rfl
@[simp] theorem refuseBadCommand_draws (s : State) : s.refuseBadCommand.draws = s.draws := rfl
@[simp] theorem refuseBadCommand_epoch (s : State) : s.refuseBadCommand.epoch = s.epoch := rfl

@[simp] theorem raiseError_cfg (e : Err) (s : State) : (s.raiseError e).cfg = s.cfg := rfl
@[simp] theorem raiseError_ie (e : Err) (s : State) : (s.raiseError e).ie = s.ie := rfl
@[simp] theorem raiseError_busy (e : Err) (s : State) : (s.raiseError e).busy = false := rfl
@[simp] theorem raiseError_done (e : Err) (s : State) : (s.raiseError e).done = true := rfl
@[simp] theorem raiseError_dir (e : Err) (s : State) : (s.raiseError e).dir = s.dir := rfl
@[simp] theorem raiseError_err (e : Err) (s : State) : (s.raiseError e).err = e := rfl
@[simp] theorem raiseError_phase (e : Err) (s : State) : (s.raiseError e).phase = .idle := rfl
@[simp] theorem raiseError_stage (e : Err) (s : State) : (s.raiseError e).stage = s.stage := rfl
@[simp] theorem raiseError_ovr (e : Err) (s : State) : (s.raiseError e).ovr = s.ovr := rfl
@[simp] theorem raiseError_accerr (e : Err) (s : State) : (s.raiseError e).accerr = s.accerr := rfl
@[simp] theorem raiseError_lenRe (e : Err) (s : State) : (s.raiseError e).lenRe = s.lenRe := rfl
@[simp] theorem raiseError_lenIm (e : Err) (s : State) : (s.raiseError e).lenIm = s.lenIm := rfl
@[simp] theorem raiseError_xr (e : Err) (s : State) : (s.raiseError e).xr = s.xr := rfl
@[simp] theorem raiseError_xi (e : Err) (s : State) : (s.raiseError e).xi = s.xi := rfl
@[simp] theorem raiseError_sr (e : Err) (s : State) : (s.raiseError e).sr = s.sr := rfl
@[simp] theorem raiseError_si (e : Err) (s : State) : (s.raiseError e).si = s.si := rfl
@[simp] theorem raiseError_rom (e : Err) (s : State) : (s.raiseError e).rom = s.rom := rfl
@[simp] theorem raiseError_nLat (e : Err) (s : State) : (s.raiseError e).nLat = s.nLat := rfl
@[simp] theorem raiseError_role (e : Err) (s : State) : (s.raiseError e).role = s.role := rfl
@[simp] theorem raiseError_cursor (e : Err) (s : State) : (s.raiseError e).cursor = s.cursor := rfl
@[simp] theorem raiseError_picks (e : Err) (s : State) : (s.raiseError e).picks = s.picks := rfl
@[simp] theorem raiseError_host (e : Err) (s : State) : (s.raiseError e).host = s.host := rfl
@[simp] theorem raiseError_rdata (e : Err) (s : State) : (s.raiseError e).rdata = s.rdata := rfl
@[simp] theorem raiseError_draws (e : Err) (s : State) : (s.raiseError e).draws = s.draws := rfl
@[simp] theorem raiseError_epoch (e : Err) (s : State) : (s.raiseError e).epoch = s.epoch := rfl

@[simp] theorem complete_cfg (s : State) : s.complete.cfg = s.cfg := rfl
@[simp] theorem complete_ie (s : State) : s.complete.ie = s.ie := rfl
@[simp] theorem complete_busy (s : State) : s.complete.busy = false := rfl
@[simp] theorem complete_done (s : State) : s.complete.done = true := rfl
@[simp] theorem complete_dir (s : State) : s.complete.dir = s.dir := rfl
@[simp] theorem complete_err (s : State) : s.complete.err = s.err := rfl
@[simp] theorem complete_phase (s : State) : s.complete.phase = .idle := rfl
@[simp] theorem complete_stage (s : State) : s.complete.stage = s.stage := rfl
@[simp] theorem complete_ovr (s : State) : s.complete.ovr = s.ovr := rfl
@[simp] theorem complete_accerr (s : State) : s.complete.accerr = s.accerr := rfl
@[simp] theorem complete_lenRe (s : State) : s.complete.lenRe = s.lenRe := rfl
@[simp] theorem complete_lenIm (s : State) : s.complete.lenIm = s.lenIm := rfl
@[simp] theorem complete_xr (s : State) : s.complete.xr = s.xr := rfl
@[simp] theorem complete_xi (s : State) : s.complete.xi = s.xi := rfl
@[simp] theorem complete_sr (s : State) : s.complete.sr = s.sr := rfl
@[simp] theorem complete_si (s : State) : s.complete.si = s.si := rfl
@[simp] theorem complete_rom (s : State) : s.complete.rom = s.rom := rfl
@[simp] theorem complete_nLat (s : State) : s.complete.nLat = s.nLat := rfl
@[simp] theorem complete_role (s : State) : s.complete.role = s.role := rfl
@[simp] theorem complete_cursor (s : State) : s.complete.cursor = s.cursor := rfl
@[simp] theorem complete_picks (s : State) : s.complete.picks = s.picks := rfl
@[simp] theorem complete_host (s : State) : s.complete.host = s.host := rfl
@[simp] theorem complete_rdata (s : State) : s.complete.rdata = s.rdata := rfl
@[simp] theorem complete_draws (s : State) : s.complete.draws = s.draws := rfl
@[simp] theorem complete_epoch (s : State) : s.complete.epoch = s.epoch := rfl

@[simp] theorem writeCtrl_cfg (v : Word) (s : State) : (s.writeCtrl v).cfg = s.cfg := rfl
@[simp] theorem writeCtrl_ie (v : Word) (s : State) : (s.writeCtrl v).ie = v.getLsbD 0 := rfl
@[simp] theorem writeCtrl_busy (v : Word) (s : State) : (s.writeCtrl v).busy = s.busy := rfl
@[simp] theorem writeCtrl_done (v : Word) (s : State) : (s.writeCtrl v).done = s.done := rfl
@[simp] theorem writeCtrl_dir (v : Word) (s : State) : (s.writeCtrl v).dir = s.dir := rfl
@[simp] theorem writeCtrl_err (v : Word) (s : State) : (s.writeCtrl v).err = s.err := rfl
@[simp] theorem writeCtrl_phase (v : Word) (s : State) : (s.writeCtrl v).phase = s.phase := rfl
@[simp] theorem writeCtrl_stage (v : Word) (s : State) : (s.writeCtrl v).stage = s.stage := rfl
@[simp] theorem writeCtrl_ovr (v : Word) (s : State) : (s.writeCtrl v).ovr = s.ovr := rfl
@[simp] theorem writeCtrl_accerr (v : Word) (s : State) : (s.writeCtrl v).accerr = s.accerr := rfl
@[simp] theorem writeCtrl_lenRe (v : Word) (s : State) : (s.writeCtrl v).lenRe = s.lenRe := rfl
@[simp] theorem writeCtrl_lenIm (v : Word) (s : State) : (s.writeCtrl v).lenIm = s.lenIm := rfl
@[simp] theorem writeCtrl_xr (v : Word) (s : State) : (s.writeCtrl v).xr = s.xr := rfl
@[simp] theorem writeCtrl_xi (v : Word) (s : State) : (s.writeCtrl v).xi = s.xi := rfl
@[simp] theorem writeCtrl_sr (v : Word) (s : State) : (s.writeCtrl v).sr = s.sr := rfl
@[simp] theorem writeCtrl_si (v : Word) (s : State) : (s.writeCtrl v).si = s.si := rfl
@[simp] theorem writeCtrl_rom (v : Word) (s : State) : (s.writeCtrl v).rom = s.rom := rfl
@[simp] theorem writeCtrl_nLat (v : Word) (s : State) : (s.writeCtrl v).nLat = s.nLat := rfl
@[simp] theorem writeCtrl_role (v : Word) (s : State) : (s.writeCtrl v).role = s.role := rfl
@[simp] theorem writeCtrl_cursor (v : Word) (s : State) : (s.writeCtrl v).cursor = s.cursor := rfl
@[simp] theorem writeCtrl_picks (v : Word) (s : State) : (s.writeCtrl v).picks = s.picks := rfl
@[simp] theorem writeCtrl_host (v : Word) (s : State) : (s.writeCtrl v).host = s.host := rfl
@[simp] theorem writeCtrl_rdata (v : Word) (s : State) : (s.writeCtrl v).rdata = s.rdata := rfl
@[simp] theorem writeCtrl_draws (v : Word) (s : State) : (s.writeCtrl v).draws = s.draws := rfl
@[simp] theorem writeCtrl_epoch (v : Word) (s : State) : (s.writeCtrl v).epoch = s.epoch := rfl

@[simp] theorem writeStatus_cfg (v : Word) (s : State) : (s.writeStatus v).cfg = s.cfg := rfl
@[simp] theorem writeStatus_ie (v : Word) (s : State) : (s.writeStatus v).ie = s.ie := rfl
@[simp] theorem writeStatus_busy (v : Word) (s : State) : (s.writeStatus v).busy = s.busy := rfl
@[simp] theorem writeStatus_done (v : Word) (s : State) : (s.writeStatus v).done = (s.done && !v.getLsbD 1) := rfl
@[simp] theorem writeStatus_dir (v : Word) (s : State) : (s.writeStatus v).dir = s.dir := rfl
@[simp] theorem writeStatus_err (v : Word) (s : State) : (s.writeStatus v).err = s.err := rfl
@[simp] theorem writeStatus_phase (v : Word) (s : State) : (s.writeStatus v).phase = s.phase := rfl
@[simp] theorem writeStatus_stage (v : Word) (s : State) : (s.writeStatus v).stage = s.stage := rfl
@[simp] theorem writeStatus_ovr (v : Word) (s : State) : (s.writeStatus v).ovr = (s.ovr && !v.getLsbD 24) := rfl
@[simp] theorem writeStatus_accerr (v : Word) (s : State) : (s.writeStatus v).accerr = (s.accerr && !v.getLsbD 25) := rfl
@[simp] theorem writeStatus_lenRe (v : Word) (s : State) : (s.writeStatus v).lenRe = s.lenRe := rfl
@[simp] theorem writeStatus_lenIm (v : Word) (s : State) : (s.writeStatus v).lenIm = s.lenIm := rfl
@[simp] theorem writeStatus_xr (v : Word) (s : State) : (s.writeStatus v).xr = s.xr := rfl
@[simp] theorem writeStatus_xi (v : Word) (s : State) : (s.writeStatus v).xi = s.xi := rfl
@[simp] theorem writeStatus_sr (v : Word) (s : State) : (s.writeStatus v).sr = s.sr := rfl
@[simp] theorem writeStatus_si (v : Word) (s : State) : (s.writeStatus v).si = s.si := rfl
@[simp] theorem writeStatus_rom (v : Word) (s : State) : (s.writeStatus v).rom = s.rom := rfl
@[simp] theorem writeStatus_nLat (v : Word) (s : State) : (s.writeStatus v).nLat = s.nLat := rfl
@[simp] theorem writeStatus_role (v : Word) (s : State) : (s.writeStatus v).role = s.role := rfl
@[simp] theorem writeStatus_cursor (v : Word) (s : State) : (s.writeStatus v).cursor = s.cursor := rfl
@[simp] theorem writeStatus_picks (v : Word) (s : State) : (s.writeStatus v).picks = s.picks := rfl
@[simp] theorem writeStatus_host (v : Word) (s : State) : (s.writeStatus v).host = s.host := rfl
@[simp] theorem writeStatus_rdata (v : Word) (s : State) : (s.writeStatus v).rdata = s.rdata := rfl
@[simp] theorem writeStatus_draws (v : Word) (s : State) : (s.writeStatus v).draws = s.draws := rfl
@[simp] theorem writeStatus_epoch (v : Word) (s : State) : (s.writeStatus v).epoch = s.epoch := rfl

@[simp] theorem setBank_cfg (b : BankId) (c : Bank) (s : State) : (s.setBank b c).cfg = s.cfg := by cases b <;> rfl
@[simp] theorem setBank_ie (b : BankId) (c : Bank) (s : State) : (s.setBank b c).ie = s.ie := by cases b <;> rfl
@[simp] theorem setBank_busy (b : BankId) (c : Bank) (s : State) : (s.setBank b c).busy = s.busy := by cases b <;> rfl
@[simp] theorem setBank_done (b : BankId) (c : Bank) (s : State) : (s.setBank b c).done = s.done := by cases b <;> rfl
@[simp] theorem setBank_dir (b : BankId) (c : Bank) (s : State) : (s.setBank b c).dir = s.dir := by cases b <;> rfl
@[simp] theorem setBank_err (b : BankId) (c : Bank) (s : State) : (s.setBank b c).err = s.err := by cases b <;> rfl
@[simp] theorem setBank_phase (b : BankId) (c : Bank) (s : State) : (s.setBank b c).phase = s.phase := by cases b <;> rfl
@[simp] theorem setBank_stage (b : BankId) (c : Bank) (s : State) : (s.setBank b c).stage = s.stage := by cases b <;> rfl
@[simp] theorem setBank_ovr (b : BankId) (c : Bank) (s : State) : (s.setBank b c).ovr = s.ovr := by cases b <;> rfl
@[simp] theorem setBank_accerr (b : BankId) (c : Bank) (s : State) : (s.setBank b c).accerr = s.accerr := by cases b <;> rfl
@[simp] theorem setBank_lenRe (b : BankId) (c : Bank) (s : State) : (s.setBank b c).lenRe = s.lenRe := by cases b <;> rfl
@[simp] theorem setBank_lenIm (b : BankId) (c : Bank) (s : State) : (s.setBank b c).lenIm = s.lenIm := by cases b <;> rfl
@[simp] theorem setBank_rom (b : BankId) (c : Bank) (s : State) : (s.setBank b c).rom = s.rom := by cases b <;> rfl
@[simp] theorem setBank_nLat (b : BankId) (c : Bank) (s : State) : (s.setBank b c).nLat = s.nLat := by cases b <;> rfl
@[simp] theorem setBank_role (b : BankId) (c : Bank) (s : State) : (s.setBank b c).role = s.role := by cases b <;> rfl
@[simp] theorem setBank_cursor (b : BankId) (c : Bank) (s : State) : (s.setBank b c).cursor = s.cursor := by cases b <;> rfl
@[simp] theorem setBank_picks (b : BankId) (c : Bank) (s : State) : (s.setBank b c).picks = s.picks := by cases b <;> rfl
@[simp] theorem setBank_host (b : BankId) (c : Bank) (s : State) : (s.setBank b c).host = s.host := by cases b <;> rfl
@[simp] theorem setBank_rdata (b : BankId) (c : Bank) (s : State) : (s.setBank b c).rdata = s.rdata := by cases b <;> rfl
@[simp] theorem setBank_draws (b : BankId) (c : Bank) (s : State) : (s.setBank b c).draws = s.draws := by cases b <;> rfl
@[simp] theorem setBank_epoch (b : BankId) (c : Bank) (s : State) : (s.setBank b c).epoch = s.epoch := by cases b <;> rfl

@[simp] theorem writeWords_cfg (b : BankId) (lo : Nat) (ws : List Word) (s : State) : (s.writeWords b lo ws).cfg = s.cfg := by simp [State.writeWords]
@[simp] theorem writeWords_ie (b : BankId) (lo : Nat) (ws : List Word) (s : State) : (s.writeWords b lo ws).ie = s.ie := by simp [State.writeWords]
@[simp] theorem writeWords_busy (b : BankId) (lo : Nat) (ws : List Word) (s : State) : (s.writeWords b lo ws).busy = s.busy := by simp [State.writeWords]
@[simp] theorem writeWords_done (b : BankId) (lo : Nat) (ws : List Word) (s : State) : (s.writeWords b lo ws).done = s.done := by simp [State.writeWords]
@[simp] theorem writeWords_dir (b : BankId) (lo : Nat) (ws : List Word) (s : State) : (s.writeWords b lo ws).dir = s.dir := by simp [State.writeWords]
@[simp] theorem writeWords_err (b : BankId) (lo : Nat) (ws : List Word) (s : State) : (s.writeWords b lo ws).err = s.err := by simp [State.writeWords]
@[simp] theorem writeWords_phase (b : BankId) (lo : Nat) (ws : List Word) (s : State) : (s.writeWords b lo ws).phase = s.phase := by simp [State.writeWords]
@[simp] theorem writeWords_stage (b : BankId) (lo : Nat) (ws : List Word) (s : State) : (s.writeWords b lo ws).stage = s.stage := by simp [State.writeWords]
@[simp] theorem writeWords_ovr (b : BankId) (lo : Nat) (ws : List Word) (s : State) : (s.writeWords b lo ws).ovr = s.ovr := by simp [State.writeWords]
@[simp] theorem writeWords_accerr (b : BankId) (lo : Nat) (ws : List Word) (s : State) : (s.writeWords b lo ws).accerr = s.accerr := by simp [State.writeWords]
@[simp] theorem writeWords_lenRe (b : BankId) (lo : Nat) (ws : List Word) (s : State) : (s.writeWords b lo ws).lenRe = s.lenRe := by simp [State.writeWords]
@[simp] theorem writeWords_lenIm (b : BankId) (lo : Nat) (ws : List Word) (s : State) : (s.writeWords b lo ws).lenIm = s.lenIm := by simp [State.writeWords]
@[simp] theorem writeWords_rom (b : BankId) (lo : Nat) (ws : List Word) (s : State) : (s.writeWords b lo ws).rom = s.rom := by simp [State.writeWords]
@[simp] theorem writeWords_nLat (b : BankId) (lo : Nat) (ws : List Word) (s : State) : (s.writeWords b lo ws).nLat = s.nLat := by simp [State.writeWords]
@[simp] theorem writeWords_role (b : BankId) (lo : Nat) (ws : List Word) (s : State) : (s.writeWords b lo ws).role = s.role := by simp [State.writeWords]
@[simp] theorem writeWords_cursor (b : BankId) (lo : Nat) (ws : List Word) (s : State) : (s.writeWords b lo ws).cursor = s.cursor := by simp [State.writeWords]
@[simp] theorem writeWords_picks (b : BankId) (lo : Nat) (ws : List Word) (s : State) : (s.writeWords b lo ws).picks = s.picks := by simp [State.writeWords]
@[simp] theorem writeWords_host (b : BankId) (lo : Nat) (ws : List Word) (s : State) : (s.writeWords b lo ws).host = s.host := by simp [State.writeWords]
@[simp] theorem writeWords_rdata (b : BankId) (lo : Nat) (ws : List Word) (s : State) : (s.writeWords b lo ws).rdata = s.rdata := by simp [State.writeWords]
@[simp] theorem writeWords_draws (b : BankId) (lo : Nat) (ws : List Word) (s : State) : (s.writeWords b lo ws).draws = s.draws := by simp [State.writeWords]
@[simp] theorem writeWords_epoch (b : BankId) (lo : Nat) (ws : List Word) (s : State) : (s.writeWords b lo ws).epoch = s.epoch := by simp [State.writeWords]

@[simp] theorem writeFls_cfg (b : BankId) (lo : Nat) (vs : List Fl) (s : State) : (s.writeFls b lo vs).cfg = s.cfg := by simp [State.writeFls]
@[simp] theorem writeFls_ie (b : BankId) (lo : Nat) (vs : List Fl) (s : State) : (s.writeFls b lo vs).ie = s.ie := by simp [State.writeFls]
@[simp] theorem writeFls_busy (b : BankId) (lo : Nat) (vs : List Fl) (s : State) : (s.writeFls b lo vs).busy = s.busy := by simp [State.writeFls]
@[simp] theorem writeFls_done (b : BankId) (lo : Nat) (vs : List Fl) (s : State) : (s.writeFls b lo vs).done = s.done := by simp [State.writeFls]
@[simp] theorem writeFls_dir (b : BankId) (lo : Nat) (vs : List Fl) (s : State) : (s.writeFls b lo vs).dir = s.dir := by simp [State.writeFls]
@[simp] theorem writeFls_err (b : BankId) (lo : Nat) (vs : List Fl) (s : State) : (s.writeFls b lo vs).err = s.err := by simp [State.writeFls]
@[simp] theorem writeFls_phase (b : BankId) (lo : Nat) (vs : List Fl) (s : State) : (s.writeFls b lo vs).phase = s.phase := by simp [State.writeFls]
@[simp] theorem writeFls_stage (b : BankId) (lo : Nat) (vs : List Fl) (s : State) : (s.writeFls b lo vs).stage = s.stage := by simp [State.writeFls]
@[simp] theorem writeFls_ovr (b : BankId) (lo : Nat) (vs : List Fl) (s : State) : (s.writeFls b lo vs).ovr = s.ovr := by simp [State.writeFls]
@[simp] theorem writeFls_accerr (b : BankId) (lo : Nat) (vs : List Fl) (s : State) : (s.writeFls b lo vs).accerr = s.accerr := by simp [State.writeFls]
@[simp] theorem writeFls_lenRe (b : BankId) (lo : Nat) (vs : List Fl) (s : State) : (s.writeFls b lo vs).lenRe = s.lenRe := by simp [State.writeFls]
@[simp] theorem writeFls_lenIm (b : BankId) (lo : Nat) (vs : List Fl) (s : State) : (s.writeFls b lo vs).lenIm = s.lenIm := by simp [State.writeFls]
@[simp] theorem writeFls_rom (b : BankId) (lo : Nat) (vs : List Fl) (s : State) : (s.writeFls b lo vs).rom = s.rom := by simp [State.writeFls]
@[simp] theorem writeFls_nLat (b : BankId) (lo : Nat) (vs : List Fl) (s : State) : (s.writeFls b lo vs).nLat = s.nLat := by simp [State.writeFls]
@[simp] theorem writeFls_role (b : BankId) (lo : Nat) (vs : List Fl) (s : State) : (s.writeFls b lo vs).role = s.role := by simp [State.writeFls]
@[simp] theorem writeFls_cursor (b : BankId) (lo : Nat) (vs : List Fl) (s : State) : (s.writeFls b lo vs).cursor = s.cursor := by simp [State.writeFls]
@[simp] theorem writeFls_picks (b : BankId) (lo : Nat) (vs : List Fl) (s : State) : (s.writeFls b lo vs).picks = s.picks := by simp [State.writeFls]
@[simp] theorem writeFls_host (b : BankId) (lo : Nat) (vs : List Fl) (s : State) : (s.writeFls b lo vs).host = s.host := by simp [State.writeFls]
@[simp] theorem writeFls_rdata (b : BankId) (lo : Nat) (vs : List Fl) (s : State) : (s.writeFls b lo vs).rdata = s.rdata := by simp [State.writeFls]
@[simp] theorem writeFls_draws (b : BankId) (lo : Nat) (vs : List Fl) (s : State) : (s.writeFls b lo vs).draws = s.draws := by simp [State.writeFls]
@[simp] theorem writeFls_epoch (b : BankId) (lo : Nat) (vs : List Fl) (s : State) : (s.writeFls b lo vs).epoch = s.epoch := by simp [State.writeFls]

@[simp] theorem writePairs_cfg (r : Role) (lo : Nat) (ps : List (Fl × Fl)) (s : State) : (s.writePairs r lo ps).cfg = s.cfg := by simp [State.writePairs]
@[simp] theorem writePairs_ie (r : Role) (lo : Nat) (ps : List (Fl × Fl)) (s : State) : (s.writePairs r lo ps).ie = s.ie := by simp [State.writePairs]
@[simp] theorem writePairs_busy (r : Role) (lo : Nat) (ps : List (Fl × Fl)) (s : State) : (s.writePairs r lo ps).busy = s.busy := by simp [State.writePairs]
@[simp] theorem writePairs_done (r : Role) (lo : Nat) (ps : List (Fl × Fl)) (s : State) : (s.writePairs r lo ps).done = s.done := by simp [State.writePairs]
@[simp] theorem writePairs_dir (r : Role) (lo : Nat) (ps : List (Fl × Fl)) (s : State) : (s.writePairs r lo ps).dir = s.dir := by simp [State.writePairs]
@[simp] theorem writePairs_err (r : Role) (lo : Nat) (ps : List (Fl × Fl)) (s : State) : (s.writePairs r lo ps).err = s.err := by simp [State.writePairs]
@[simp] theorem writePairs_phase (r : Role) (lo : Nat) (ps : List (Fl × Fl)) (s : State) : (s.writePairs r lo ps).phase = s.phase := by simp [State.writePairs]
@[simp] theorem writePairs_stage (r : Role) (lo : Nat) (ps : List (Fl × Fl)) (s : State) : (s.writePairs r lo ps).stage = s.stage := by simp [State.writePairs]
@[simp] theorem writePairs_ovr (r : Role) (lo : Nat) (ps : List (Fl × Fl)) (s : State) : (s.writePairs r lo ps).ovr = s.ovr := by simp [State.writePairs]
@[simp] theorem writePairs_accerr (r : Role) (lo : Nat) (ps : List (Fl × Fl)) (s : State) : (s.writePairs r lo ps).accerr = s.accerr := by simp [State.writePairs]
@[simp] theorem writePairs_lenRe (r : Role) (lo : Nat) (ps : List (Fl × Fl)) (s : State) : (s.writePairs r lo ps).lenRe = s.lenRe := by simp [State.writePairs]
@[simp] theorem writePairs_lenIm (r : Role) (lo : Nat) (ps : List (Fl × Fl)) (s : State) : (s.writePairs r lo ps).lenIm = s.lenIm := by simp [State.writePairs]
@[simp] theorem writePairs_rom (r : Role) (lo : Nat) (ps : List (Fl × Fl)) (s : State) : (s.writePairs r lo ps).rom = s.rom := by simp [State.writePairs]
@[simp] theorem writePairs_nLat (r : Role) (lo : Nat) (ps : List (Fl × Fl)) (s : State) : (s.writePairs r lo ps).nLat = s.nLat := by simp [State.writePairs]
@[simp] theorem writePairs_role (r : Role) (lo : Nat) (ps : List (Fl × Fl)) (s : State) : (s.writePairs r lo ps).role = s.role := by simp [State.writePairs]
@[simp] theorem writePairs_cursor (r : Role) (lo : Nat) (ps : List (Fl × Fl)) (s : State) : (s.writePairs r lo ps).cursor = s.cursor := by simp [State.writePairs]
@[simp] theorem writePairs_picks (r : Role) (lo : Nat) (ps : List (Fl × Fl)) (s : State) : (s.writePairs r lo ps).picks = s.picks := by simp [State.writePairs]
@[simp] theorem writePairs_host (r : Role) (lo : Nat) (ps : List (Fl × Fl)) (s : State) : (s.writePairs r lo ps).host = s.host := by simp [State.writePairs]
@[simp] theorem writePairs_rdata (r : Role) (lo : Nat) (ps : List (Fl × Fl)) (s : State) : (s.writePairs r lo ps).rdata = s.rdata := by simp [State.writePairs]
@[simp] theorem writePairs_epoch (r : Role) (lo : Nat) (ps : List (Fl × Fl)) (s : State) : (s.writePairs r lo ps).epoch = s.epoch := by simp [State.writePairs]

@[simp] theorem normalizeOrComplete_cfg (s : State) : s.normalizeOrComplete.cfg = s.cfg := by
  unfold State.normalizeOrComplete; split <;> simp
@[simp] theorem normalizeOrComplete_ie (s : State) : s.normalizeOrComplete.ie = s.ie := by
  unfold State.normalizeOrComplete; split <;> simp
@[simp] theorem normalizeOrComplete_dir (s : State) : s.normalizeOrComplete.dir = s.dir := by
  unfold State.normalizeOrComplete; split <;> simp
@[simp] theorem normalizeOrComplete_err (s : State) : s.normalizeOrComplete.err = s.err := by
  unfold State.normalizeOrComplete; split <;> simp
@[simp] theorem normalizeOrComplete_stage (s : State) : s.normalizeOrComplete.stage = s.stage := by
  unfold State.normalizeOrComplete; split <;> simp
@[simp] theorem normalizeOrComplete_ovr (s : State) : s.normalizeOrComplete.ovr = s.ovr := by
  unfold State.normalizeOrComplete; split <;> simp
@[simp] theorem normalizeOrComplete_accerr (s : State) : s.normalizeOrComplete.accerr = s.accerr := by
  unfold State.normalizeOrComplete; split <;> simp
@[simp] theorem normalizeOrComplete_lenRe (s : State) : s.normalizeOrComplete.lenRe = s.lenRe := by
  unfold State.normalizeOrComplete; split <;> simp
@[simp] theorem normalizeOrComplete_lenIm (s : State) : s.normalizeOrComplete.lenIm = s.lenIm := by
  unfold State.normalizeOrComplete; split <;> simp
@[simp] theorem normalizeOrComplete_xr (s : State) : s.normalizeOrComplete.xr = s.xr := by
  unfold State.normalizeOrComplete; split <;> simp
@[simp] theorem normalizeOrComplete_xi (s : State) : s.normalizeOrComplete.xi = s.xi := by
  unfold State.normalizeOrComplete; split <;> simp
@[simp] theorem normalizeOrComplete_sr (s : State) : s.normalizeOrComplete.sr = s.sr := by
  unfold State.normalizeOrComplete; split <;> simp
@[simp] theorem normalizeOrComplete_si (s : State) : s.normalizeOrComplete.si = s.si := by
  unfold State.normalizeOrComplete; split <;> simp
@[simp] theorem normalizeOrComplete_rom (s : State) : s.normalizeOrComplete.rom = s.rom := by
  unfold State.normalizeOrComplete; split <;> simp
@[simp] theorem normalizeOrComplete_nLat (s : State) : s.normalizeOrComplete.nLat = s.nLat := by
  unfold State.normalizeOrComplete; split <;> simp
@[simp] theorem normalizeOrComplete_role (s : State) : s.normalizeOrComplete.role = s.role := by
  unfold State.normalizeOrComplete; split <;> simp
@[simp] theorem normalizeOrComplete_cursor (s : State) : s.normalizeOrComplete.cursor = s.cursor := by
  unfold State.normalizeOrComplete; split <;> simp
@[simp] theorem normalizeOrComplete_picks (s : State) : s.normalizeOrComplete.picks = s.picks := by
  unfold State.normalizeOrComplete; split <;> simp
@[simp] theorem normalizeOrComplete_host (s : State) : s.normalizeOrComplete.host = s.host := by
  unfold State.normalizeOrComplete; split <;> simp
@[simp] theorem normalizeOrComplete_rdata (s : State) : s.normalizeOrComplete.rdata = s.rdata := by
  unfold State.normalizeOrComplete; split <;> simp
@[simp] theorem normalizeOrComplete_draws (s : State) : s.normalizeOrComplete.draws = s.draws := by
  unfold State.normalizeOrComplete; split <;> simp
@[simp] theorem normalizeOrComplete_epoch (s : State) : s.normalizeOrComplete.epoch = s.epoch := by
  unfold State.normalizeOrComplete; split <;> simp

@[simp] theorem tail_cfg (s : State) : s.tail.cfg = s.cfg := by
  unfold State.tail; split
  · rfl
  · split <;> simp
@[simp] theorem tail_ie (s : State) : s.tail.ie = s.ie := by
  unfold State.tail; split
  · rfl
  · split <;> simp
@[simp] theorem tail_dir (s : State) : s.tail.dir = s.dir := by
  unfold State.tail; split
  · rfl
  · split <;> simp
@[simp] theorem tail_err (s : State) : s.tail.err = s.err := by
  unfold State.tail; split
  · rfl
  · split <;> simp
@[simp] theorem tail_stage (s : State) : s.tail.stage = s.stage := by
  unfold State.tail; split
  · rfl
  · split <;> simp
@[simp] theorem tail_ovr (s : State) : s.tail.ovr = s.ovr := by
  unfold State.tail; split
  · rfl
  · split <;> simp
@[simp] theorem tail_accerr (s : State) : s.tail.accerr = s.accerr := by
  unfold State.tail; split
  · rfl
  · split <;> simp
@[simp] theorem tail_lenRe (s : State) : s.tail.lenRe = s.lenRe := by
  unfold State.tail; split
  · rfl
  · split <;> simp
@[simp] theorem tail_lenIm (s : State) : s.tail.lenIm = s.lenIm := by
  unfold State.tail; split
  · rfl
  · split <;> simp
@[simp] theorem tail_xr (s : State) : s.tail.xr = s.xr := by
  unfold State.tail; split
  · rfl
  · split <;> simp
@[simp] theorem tail_xi (s : State) : s.tail.xi = s.xi := by
  unfold State.tail; split
  · rfl
  · split <;> simp
@[simp] theorem tail_sr (s : State) : s.tail.sr = s.sr := by
  unfold State.tail; split
  · rfl
  · split <;> simp
@[simp] theorem tail_si (s : State) : s.tail.si = s.si := by
  unfold State.tail; split
  · rfl
  · split <;> simp
@[simp] theorem tail_rom (s : State) : s.tail.rom = s.rom := by
  unfold State.tail; split
  · rfl
  · split <;> simp
@[simp] theorem tail_nLat (s : State) : s.tail.nLat = s.nLat := by
  unfold State.tail; split
  · rfl
  · split <;> simp
@[simp] theorem tail_role (s : State) : s.tail.role = s.role := by
  unfold State.tail; split
  · rfl
  · split <;> simp
@[simp] theorem tail_cursor (s : State) : s.tail.cursor = s.cursor := by
  unfold State.tail; split
  · rfl
  · split <;> simp
@[simp] theorem tail_picks (s : State) : s.tail.picks = s.picks := by
  unfold State.tail; split
  · rfl
  · split <;> simp
@[simp] theorem tail_host (s : State) : s.tail.host = s.host := by
  unfold State.tail; split
  · rfl
  · split <;> simp
@[simp] theorem tail_rdata (s : State) : s.tail.rdata = s.rdata := by
  unfold State.tail; split
  · rfl
  · split <;> simp
@[simp] theorem tail_draws (s : State) : s.tail.draws = s.draws := by
  unfold State.tail; split
  · rfl
  · split <;> simp
@[simp] theorem tail_epoch (s : State) : s.tail.epoch = s.epoch := by
  unfold State.tail; split
  · rfl
  · split <;> simp

@[simp] theorem writePairs_draws (r : Role) (lo : Nat) (ps : List (Fl × Fl)) (s : State) :
    (s.writePairs r lo ps).draws = s.draws + 1 := rfl

/-- A bank after one bank was replaced. -/
theorem setBank_bank (b c : BankId) (x : Bank) (s : State) :
    (s.setBank b x).bank c = if c = b then x else s.bank c := by
  cases b <;> cases c <;> rfl

/-- Word i of a bank, by the lookup alone. -/
theorem readWord_eq (s : State) (b : BankId) (i : Nat) :
    s.readWord b i = (bankLookup i (s.bank b)).getD (Config.resetWord s.epoch b.code i) := by
  rw [State.readWord]; split <;> simp_all

/-- Reading depends on the bank and the epoch only. -/
theorem readWord_congr {s t : State} {b : BankId} (hb : t.bank b = s.bank b) (he : t.epoch = s.epoch) (i : Nat) :
    t.readWord b i = s.readWord b i := by
  rw [readWord_eq, readWord_eq, hb, he]

@[simp] theorem refuseAccess_bank (s : State) (c : BankId) : s.refuseAccess.bank c = s.bank c := by
  cases c <;> simp [State.bank]

@[simp] theorem refuseAccess_readWord (s : State) (c : BankId) (i : Nat) :
    s.refuseAccess.readWord c i = s.readWord c i := readWord_congr (by simp) (by simp) i

@[simp] theorem overrun_bank (s : State) (c : BankId) : s.overrun.bank c = s.bank c := by
  cases c <;> simp [State.bank]

@[simp] theorem overrun_readWord (s : State) (c : BankId) (i : Nat) :
    s.overrun.readWord c i = s.readWord c i := readWord_congr (by simp) (by simp) i

@[simp] theorem acceptCommand_bank (d : Dir) (s : State) (c : BankId) : (s.acceptCommand d).bank c = s.bank c := by
  cases c <;> simp [State.bank]

@[simp] theorem acceptCommand_readWord (d : Dir) (s : State) (c : BankId) (i : Nat) :
    (s.acceptCommand d).readWord c i = s.readWord c i := readWord_congr (by simp) (by simp) i

@[simp] theorem refuseBadCommand_bank (s : State) (c : BankId) : s.refuseBadCommand.bank c = s.bank c := by
  cases c <;> simp [State.bank]

@[simp] theorem refuseBadCommand_readWord (s : State) (c : BankId) (i : Nat) :
    s.refuseBadCommand.readWord c i = s.readWord c i := readWord_congr (by simp) (by simp) i

@[simp] theorem raiseError_bank (e : Err) (s : State) (c : BankId) : (s.raiseError e).bank c = s.bank c := by
  cases c <;> simp [State.bank]

@[simp] theorem raiseError_readWord (e : Err) (s : State) (c : BankId) (i : Nat) :
    (s.raiseError e).readWord c i = s.readWord c i := readWord_congr (by simp) (by simp) i

@[simp] theorem complete_bank (s : State) (c : BankId) : s.complete.bank c = s.bank c := by
  cases c <;> simp [State.bank]

@[simp] theorem complete_readWord (s : State) (c : BankId) (i : Nat) :
    s.complete.readWord c i = s.readWord c i := readWord_congr (by simp) (by simp) i

@[simp] theorem normalizeOrComplete_bank (s : State) (c : BankId) : s.normalizeOrComplete.bank c = s.bank c := by
  cases c <;> simp [State.bank]

@[simp] theorem normalizeOrComplete_readWord (s : State) (c : BankId) (i : Nat) :
    s.normalizeOrComplete.readWord c i = s.readWord c i := readWord_congr (by simp) (by simp) i

@[simp] theorem tail_bank (s : State) (c : BankId) : s.tail.bank c = s.bank c := by
  cases c <;> simp [State.bank]

@[simp] theorem tail_readWord (s : State) (c : BankId) (i : Nat) :
    s.tail.readWord c i = s.readWord c i := readWord_congr (by simp) (by simp) i

end Sys2Proof.Machine
end

