-- ==== Sys2Proof/Laws/Ops.lean ====
section
/-! SUPPORT. What each shared operation does, once: writing words and values, taking a section, Tail, reset. -/

namespace Sys2Proof.Machine

theorem writeWords_bank (b c : BankId) (lo : Nat) (ws : List Word) (s : State) :
    (s.writeWords b lo ws).bank c = if c = b then bankSplice lo ws (s.bank b) else s.bank c :=
  setBank_bank b c _ s

/-- Words written read back; every other word of every bank is as before. -/
theorem writeWords_readWord (b c : BankId) (lo i : Nat) (ws : List Word) (s : State) :
    (s.writeWords b lo ws).readWord c i =
      if c = b ∧ lo ≤ i ∧ i < lo + ws.length then ws.getD (i - lo) 0#32 else s.readWord c i := by
  rw [readWord_eq, writeWords_bank, writeWords_epoch, readWord_eq]
  by_cases hc : c = b
  · subst hc
    rw [if_pos rfl, bankLookup_splice]
    by_cases hi : lo ≤ i ∧ i < lo + ws.length
    · have hlt : i - lo < ws.length := by omega
      rw [if_pos hi, if_pos ⟨rfl, hi⟩, List.getD_eq_getElem?_getD, List.getElem?_eq_getElem hlt]
      rfl
    · rw [if_neg hi, if_neg (fun h => hi h.2)]
  · rw [if_neg hc, if_neg (fun h => hc h.1)]

/-- Writing words below NMAX keeps the banks canonical and inside NMAX. -/
theorem writeWords_banksOk {b : BankId} {lo : Nat} {ws : List Word} {s : State} (h : s.BanksOk)
    (hw : lo + ws.length ≤ s.cfg.nmax) : (s.writeWords b lo ws).BanksOk := by
  intro c
  rw [writeWords_bank, writeWords_cfg]
  by_cases hc : c = b
  · rw [if_pos hc]
    exact ⟨bankSplice_wf lo ws (h b).1, bankSplice_within _ lo ws (h b).2 hw⟩
  · rw [if_neg hc]; exact h c

/-- Computed values written are the values read; every other word is as before. -/
theorem writeFls_value {b : BankId} {lo : Nat} {vs : List Fl} (s : State) (hw : ∀ v ∈ vs, v.wf = true)
    (c : BankId) (i : Nat) :
    Fl.ofWord ((s.writeFls b lo vs).readWord c i) =
      if c = b ∧ lo ≤ i ∧ i < lo + vs.length then vs.getD (i - lo) .nan else Fl.ofWord (s.readWord c i) := by
  rw [State.writeFls, writeWords_readWord, storeWords_length]
  by_cases hi : c = b ∧ lo ≤ i ∧ i < lo + vs.length
  · have hlt : i - lo < vs.length := by omega
    rw [if_pos hi, if_pos hi, List.getD_eq_getElem?_getD, List.getD_eq_getElem?_getD, storeWords_getElem?,
      List.getElem?_eq_getElem hlt]
    exact ofWord_toWord _ (hw _ (List.getElem_mem hlt))
  · rw [if_neg hi, if_neg hi]

theorem writeFls_readWord_other {b c : BankId} {lo i : Nat} {vs : List Fl} (s : State)
    (h : ¬ (c = b ∧ lo ≤ i ∧ i < lo + vs.length)) : (s.writeFls b lo vs).readWord c i = s.readWord c i := by
  rw [State.writeFls, writeWords_readWord, storeWords_length, if_neg h]

theorem writeFls_banksOk {b : BankId} {lo : Nat} {vs : List Fl} {s : State} (h : s.BanksOk)
    (hw : lo + vs.length ≤ s.cfg.nmax) : (s.writeFls b lo vs).BanksOk :=
  writeWords_banksOk h (by rw [storeWords_length]; exact hw)

theorem draws_readWord (s : State) (n : Nat) (c : BankId) (i : Nat) :
    ({ s with draws := n } : State).readWord c i = s.readWord c i := rfl

theorem role_re_inj {r q : Role} : r.re = q.re ↔ r = q := by
  cases r <;> cases q <;> simp [Role.re]

theorem role_im_inj {r q : Role} : r.im = q.im ↔ r = q := by
  cases r <;> cases q <;> simp [Role.im]

theorem role_re_ne_im (r q : Role) : r.re ≠ q.im := by
  cases r <;> cases q <;> simp [Role.re, Role.im]

/-- Complex values written are the values read; every other value of every bank pair is as before. -/
theorem writePairs_readPair {r : Role} {lo : Nat} {ps : List (Fl × Fl)} (s : State)
    (hw : ∀ p ∈ ps, p.1.wf = true ∧ p.2.wf = true) (q : Role) (i : Nat) :
    (s.writePairs r lo ps).readPair q i =
      if q = r ∧ lo ≤ i ∧ i < lo + ps.length then ps.getD (i - lo) (.nan, .nan) else s.readPair q i := by
  have h1 : ∀ v ∈ ps.map Prod.fst, v.wf = true := by
    intro v hv
    obtain ⟨p, hp, rfl⟩ := List.mem_map.mp hv
    exact (hw p hp).1
  have h2 : ∀ v ∈ ps.map Prod.snd, v.wf = true := by
    intro v hv
    obtain ⟨p, hp, rfl⟩ := List.mem_map.mp hv
    exact (hw p hp).2
  have hre : (s.writePairs r lo ps).readWord q.re i = (s.writeFls r.re lo (ps.map Prod.fst)).readWord q.re i := by
    rw [State.writePairs, draws_readWord]
    exact writeFls_readWord_other _ (fun h => role_re_ne_im q r h.1)
  have him : Fl.ofWord ((s.writePairs r lo ps).readWord q.im i) =
      if q.im = r.im ∧ lo ≤ i ∧ i < lo + (ps.map Prod.snd).length then (ps.map Prod.snd).getD (i - lo) .nan
      else Fl.ofWord ((s.writeFls r.re lo (ps.map Prod.fst)).readWord q.im i) := by
    rw [State.writePairs, draws_readWord]
    exact writeFls_value _ h2 _ _
  rw [State.readPair, hre, him, writeFls_value s h1, writeFls_readWord_other s (fun h => role_re_ne_im r q h.1.symm)]
  simp only [role_re_inj, role_im_inj, List.length_map]
  by_cases hi : q = r ∧ lo ≤ i ∧ i < lo + ps.length
  · have hlt : i - lo < ps.length := by omega
    simp [hi, List.getD_eq_getElem?_getD, hlt]
  · rw [if_neg hi, if_neg hi, if_neg hi, State.readPair]

/-- A word outside the written range of the written pair is as before, bit for bit. -/
theorem writePairs_readWord_other {r : Role} {lo : Nat} {ps : List (Fl × Fl)} (s : State) {c : BankId} {i : Nat}
    (h : ¬ ((c = r.re ∨ c = r.im) ∧ lo ≤ i ∧ i < lo + ps.length)) :
    (s.writePairs r lo ps).readWord c i = s.readWord c i := by
  rw [State.writePairs, draws_readWord, writeFls_readWord_other, writeFls_readWord_other]
  · intro hc; rw [List.length_map] at hc; exact h ⟨Or.inl hc.1, hc.2⟩
  · intro hc; rw [List.length_map] at hc; exact h ⟨Or.inr hc.1, hc.2⟩

theorem writePairs_bank_other {r : Role} {lo : Nat} {ps : List (Fl × Fl)} (s : State) {c : BankId}
    (h : c ≠ r.re ∧ c ≠ r.im) : (s.writePairs r lo ps).bank c = s.bank c := by
  have : (s.writePairs r lo ps).bank c = ((s.writeFls r.re lo (ps.map Prod.fst)).writeFls r.im lo (ps.map Prod.snd)).bank c := rfl
  rw [this, State.writeFls, writeWords_bank, if_neg h.2, State.writeFls, writeWords_bank, if_neg h.1]

theorem writePairs_banksOk {r : Role} {lo : Nat} {ps : List (Fl × Fl)} {s : State} (h : s.BanksOk)
    (hw : lo + ps.length ≤ s.cfg.nmax) : (s.writePairs r lo ps).BanksOk := by
  have h1 : (s.writeFls r.re lo (ps.map Prod.fst)).BanksOk := writeFls_banksOk h (by rw [List.length_map]; exact hw)
  have h2 : ((s.writeFls r.re lo (ps.map Prod.fst)).writeFls r.im lo (ps.map Prod.snd)).BanksOk :=
    writeFls_banksOk h1 (by rw [List.length_map, writeFls_cfg]; exact hw)
  exact h2

/-- There is a section to take exactly when the cursor is not empty. -/
theorem takeSection_eq_none {cursor picks : List Nat} : takeSection cursor picks = none ↔ cursor = [] := by
  unfold takeSection
  rcases cursor with _ | ⟨x, xs⟩
  · simp
  · have hlt : picks.headD 0 % (x :: xs).length < (x :: xs).length := Nat.mod_lt _ (by simp)
    simp only [List.getElem?_eq_getElem hlt]
    simp

/-- The section taken is one of the cursor, and the cursor loses that position alone. -/
theorem takeSection_eq_some {cursor picks : List Nat} {sec : Nat} {cursor' picks' : List Nat}
    (h : takeSection cursor picks = some (sec, cursor', picks')) :
    ∃ j, ∃ hj : j < cursor.length, sec = cursor[j] ∧ cursor' = cursor.eraseIdx j ∧ picks' = picks.tail := by
  unfold takeSection at h
  simp only at h
  split at h
  · cases h
  · next x hx =>
    obtain ⟨hj, hx⟩ := List.getElem?_eq_some_iff.mp hx
    simp only [Option.some.injEq, Prod.mk.injEq] at h
    exact ⟨_, hj, by rw [hx]; exact h.1.symm, h.2.1.symm, h.2.2.symm⟩

/-- Everything Tail can do (rule R241). -/
theorem tail_cases (s : State) :
    (s.stage.toNat < mergeStages s.nLat ∧ s.tail = { s with phase := mergePhase s.dir }) ∨
    (mergeStages s.nLat ≤ s.stage.toNat ∧ s.role = .s ∧ s.tail = { s with phase := .copyback }) ∨
    (mergeStages s.nLat ≤ s.stage.toNat ∧ s.role = .x ∧ s.dir = .inv ∧ s.tail = { s with phase := .normalize }) ∨
    (mergeStages s.nLat ≤ s.stage.toNat ∧ s.role = .x ∧ s.dir = .fwd ∧ s.tail = s.complete) := by
  unfold State.tail State.normalizeOrComplete
  by_cases h : s.stage.toNat < mergeStages s.nLat
  · exact Or.inl ⟨h, if_pos h⟩
  · rw [if_neg h]
    cases hr : s.role with
    | s => exact Or.inr (Or.inl ⟨Nat.le_of_not_lt h, rfl, rfl⟩)
    | x =>
      cases hd : s.dir with
      | inv => exact Or.inr (Or.inr (Or.inl ⟨Nat.le_of_not_lt h, rfl, rfl, rfl⟩))
      | fwd => exact Or.inr (Or.inr (Or.inr ⟨Nat.le_of_not_lt h, rfl, rfl, rfl⟩))

/-- After a reset the banks are canonical. -/
theorem afterReset_banksOk (s : State) : s.afterReset.BanksOk := resetOf_banksOk s.cfg

end Sys2Proof.Machine
end

