-- ==== Sys2Proof/Laws/PerInstr.lean ====
section
/-! SUPPORT. A statement about every instruction as syntax, one lemma per constructor: the format it is encoded in
(rules R80, R84, R89, R90). -/

namespace Sys2Proof.Laws.Format

/-- A command is encoded as a write to CMD, a host access as a bus transaction of its own direction and address, a
micro-operation as a PHASE code from 1 to 8. -/
def Statement : Instr → Prop
  | .fftFwd => ∃ w, encode .fftFwd = cmdWrite w
  | .fftInv => ∃ w, encode .fftInv = cmdWrite w
  | .badCmd rsv opc => ∃ w, encode (.badCmd rsv opc) = cmdWrite w
  | .rd addr => ∃ t, encode (.rd addr) = .bus t ∧ t.dir = .r ∧ t.addr = addr
  | .wr addr data => ∃ t, encode (.wr addr data) = .bus t ∧ t.dir = .w ∧ t.addr = addr ∧ t.data = data
  | .validate => ∃ c : BitVec 4, encode .validate = .phase c ∧ 1 ≤ c.toNat ∧ c.toNat ≤ 8
  | .permute => ∃ c : BitVec 4, encode .permute = .phase c ∧ 1 ≤ c.toNat ∧ c.toNat ≤ 8
  | .baseFwd => ∃ c : BitVec 4, encode .baseFwd = .phase c ∧ 1 ≤ c.toNat ∧ c.toNat ≤ 8
  | .baseInv => ∃ c : BitVec 4, encode .baseInv = .phase c ∧ 1 ≤ c.toNat ∧ c.toNat ≤ 8
  | .mergeFwd => ∃ c : BitVec 4, encode .mergeFwd = .phase c ∧ 1 ≤ c.toNat ∧ c.toNat ≤ 8
  | .mergeInv => ∃ c : BitVec 4, encode .mergeInv = .phase c ∧ 1 ≤ c.toNat ∧ c.toNat ≤ 8
  | .copyback => ∃ c : BitVec 4, encode .copyback = .phase c ∧ 1 ≤ c.toNat ∧ c.toNat ≤ 8
  | .normalize => ∃ c : BitVec 4, encode .normalize = .phase c ∧ 1 ≤ c.toNat ∧ c.toNat ≤ 8

theorem fftFwd : Statement .fftFwd := ⟨_, rfl⟩
theorem fftInv : Statement .fftInv := ⟨_, rfl⟩
theorem badCmd (rsv : BitVec 28) (opc : BitVec 4) : Statement (.badCmd rsv opc) := ⟨_, rfl⟩
theorem validate : Statement .validate := ⟨_, rfl, by decide, by decide⟩
theorem permute : Statement .permute := ⟨_, rfl, by decide, by decide⟩
theorem baseFwd : Statement .baseFwd := ⟨_, rfl, by decide, by decide⟩
theorem baseInv : Statement .baseInv := ⟨_, rfl, by decide, by decide⟩
theorem mergeFwd : Statement .mergeFwd := ⟨_, rfl, by decide, by decide⟩
theorem mergeInv : Statement .mergeInv := ⟨_, rfl, by decide, by decide⟩
theorem copyback : Statement .copyback := ⟨_, rfl, by decide, by decide⟩
theorem normalize : Statement .normalize := ⟨_, rfl, by decide, by decide⟩
theorem rd (addr : Addr) : Statement (.rd addr) := ⟨_, rfl, rfl, rfl⟩
theorem wr (addr : Addr) (data : Word) : Statement (.wr addr data) := ⟨_, rfl, rfl, rfl, rfl⟩

end Sys2Proof.Laws.Format
end

