-- ==== Sys2Proof/Tests/Slice0.lean ====
section
/-! SUPPORT. Own tests: the smoke test of WellFormed, words written out from the spec's encodings, single steps with
results from 95_test_vectors.md (kept few), and a witness for the hypotheses of every statement. -/

namespace Sys2Proof.Machine.Tests

open Sys2Proof Sys2Proof.Machine

/-- A view of the next state, none when there is none. -/
def view {α : Type} (f : State → α) : Host.Outcome State Fault Refusal → Option α
  | .next s => some (f s)
  | .fault _ => none
  | .refused _ => none

/-- The instance of 95_test_vectors.md after `setlen n`. -/
def withLen (n : Nat) : State := { State.reset with lenRe := BitVec.ofNat 32 n, lenIm := BitVec.ofNat 32 n }

/-- A command of length n at a phase, with the given banks (XR, XI, SR, SI). -/
def running (d : Dir) (p : Phase) (r : Role) (n : Nat) (xr xi sr si : Bank) : State :=
  { withLen n with
    busy := true
    dir := d
    phase := p
    role := r
    nLat := n
    xr := xr
    xi := xi
    sr := sr
    si := si }

/-- A bank whose words below n are zero but for the given ones. -/
def bankOf (n : Nat) (ws : List (Nat × Word)) : Bank :=
  (List.range n).map (fun i => (i, (bankLookup i ws).getD 0#32))

/-! ### WellFormed: one ill-formed term for each check (rules R56, R83) -/

theorem test_wf_badCmd_forward_word : (Instr.badCmd 0#28 1#4).wf = false := by decide

theorem test_wf_badCmd_inverse_word : (Instr.badCmd 0#28 2#4).wf = false := by decide

theorem test_wf_wr_names_cmd : (Instr.wr 0x000004#24 1#32).wf = false := by decide

theorem test_wf_accepts : (Instr.badCmd 1#28 1#4).wf = true ∧ (Instr.badCmd 0#28 3#4).wf = true ∧
    (Instr.wr 0x000008#24 1#32).wf = true ∧ (Instr.rd 0x000004#24).wf = true := by decide

/-! ### Decoding, each word written out from the encoding (rules R82 to R84, R89, R90) -/

/-- OPC = 3:0 = 0001, RSV = 0. -/
theorem test_decode_fftFwd : decodeCmd (0b0000000000000000000000000000#28 ++ 0b0001#4) = .fftFwd := by decide

/-- OPC = 0010, RSV = 0. -/
theorem test_decode_fftInv : decodeCmd (0b0000000000000000000000000000#28 ++ 0b0010#4) = .fftInv := by decide

/-- RSV is bits 31:4, OPC bits 3:0: 0x80000012 has RSV = 0x8000001, OPC = 2. -/
theorem test_decode_badCmd : decodeCmd 0x80000012#32 = .badCmd 0x8000001#28 2#4 := by decide

/-- The micro-operation codes of rule R84, as STATUS[11:8]. -/
theorem test_decode_phases :
    decodeTableWord 32 0b000100000000 = some .validate ∧ decodeTableWord 32 0b001000000000 = some .permute ∧
    decodeTableWord 32 0b001100000000 = some .baseFwd ∧ decodeTableWord 32 0b010000000000 = some .baseInv ∧
    decodeTableWord 32 0b010100000000 = some .mergeFwd ∧ decodeTableWord 32 0b011000000000 = some .mergeInv ∧
    decodeTableWord 32 0b011100000000 = some .copyback ∧ decodeTableWord 32 0b100000000000 = some .normalize := by
  decide

/-- `rd 0x400000 + 4*3` and `wr 0x000008, 0x03000002` (rule R90). -/
theorem test_decode_bus : decodeBus { dir := .r, addr := 0x40000C#24, data := 0#32 } = .rd 0x40000C#24 ∧
    decodeBus { dir := .w, addr := 0x000008#24, data := 0x03000002#32 } = .wr 0x000008#24 0x03000002#32 := by decide

/-! ### Single steps (95_test_vectors.md L2) -/

/-- L2.1 row 4. -/
theorem test_rd_cap : view (·.rdata) (exec (.rd 0x00000C#24) State.reset) = some 0x040010A5#32 := by decide

/-- L2.1 row 8: a misaligned read gives 0 and ACCERR. -/
theorem test_rd_misaligned :
    view (fun s => (s.rdata, s.statusWord)) (exec (.rd 0x000002#24) State.reset) = some (0#32, 0x02000000#32) := by decide

/-- L2.1 row 13: the last word in range. -/
theorem test_wr_last_word :
    view (·.xr) (exec (.wr 0x43FFFC#24 0x3F800000#32) State.reset) = some [(65535, 0x3F800000#32)] := by decide

/-- L2.1 row 17: bits 1, 24, 25 are 0, nothing is cleared. -/
theorem test_wr_status_keeps :
    view (·.statusWord) (exec (.wr 0x000008#24 0xFCFFFFFD#32) { State.reset with accerr := true, done := true }) =
      some 0x02000002#32 := by decide

/-- L2.1, busy part: BUSY and PHASE = VALIDATE. -/
theorem test_fftFwd_accepted : view (·.statusWord) (exec .fftFwd (withLen 32)) = some 0x00000101#32 := by decide

/-- Acceptance of FFT_INV sets DIR and clears DONE and ERR (rule R231). -/
theorem test_fftInv_accepted :
    view (·.statusWord) (exec .fftInv { State.reset with done := true, err := .badCommand }) = some 0x00000109#32 := by
  decide

/-- An illegal word: DONE, ERR = 4 (rule R235). -/
theorem test_badCmd_refused : view (·.statusWord) (exec (.badCmd 0#28 0#4) State.reset) = some 0x00000042#32 := by decide

/-- An illegal word while BUSY = 1 is an overrun (rule R242). -/
theorem test_badCmd_busy :
    view (·.statusWord) (exec (.badCmd 0#28 0#4) (running .fwd .validate .x 32 [] [] [] [])) = some 0x01000101#32 := by
  decide

/-- R234's worked example: 64 and 32 give ShapeMismatch, ERR = 1. -/
theorem test_validate_shape :
    view (·.statusWord) (exec .validate { running .fwd .validate .x 64 [] [] [] [] with lenIm := 32#32 }) =
      some 0x00000012#32 := by decide

/-- R234: 2^31 is a power of two above NMAX, ERR = 3. -/
theorem test_validate_allocation :
    view (·.statusWord) (exec .validate (running .fwd .validate .x 0x80000000 [] [] [] [])) = some 0x00000032#32 := by
  decide

/-- L2.4, N = 64: SR[1] takes XR[2], SR[32] takes XR[1]. -/
theorem test_permute_64 :
    view (fun s => (s.readWord .sr 1, s.readWord .sr 32, s.statusWord))
      (exec .permute (running .inv .permute .x 64 (bankOf 64 [(1, 0x7FA00001#32), (2, 0x80000000#32)]) [] [] [])) =
      some (0x80000000#32, 0x7FA00001#32, 0x00000409#32) := by decide +kernel

/-- L2.5: a[1] = 1.0, forward, k = 4. -/
theorem test_baseFwd_impulse :
    view (fun s => (s.readWord .sr 4, s.readWord .si 4))
      (exec .baseFwd { running .fwd .baseFwd .s 32 [] [] (bankOf 32 [(1, 0x3F800000#32)]) (bankOf 32 []) with
        cursor := [0] }) = some (0x3F3504F3#32, 0xBF3504F3#32) := by decide +kernel

/-- L2.5: a[1] = 1.0, inverse, k = 3. -/
theorem test_baseInv_impulse :
    view (fun s => (s.readWord .sr 3, s.readWord .si 3))
      (exec .baseInv { running .inv .baseInv .s 32 [] [] (bankOf 32 [(1, 0x3F800000#32)]) (bankOf 32 []) with
        cursor := [0] }) = some (0x3F54DB31#32, 0x3F0E39DA#32) := by decide +kernel

/-- R191's worked example: div = 32, k = 8. -/
theorem test_mergeFwd_example :
    view (fun s => [s.readWord .xr 8, s.readWord .xr 40, s.readWord .xi 8, s.readWord .xi 40])
      (exec .mergeFwd (running .fwd .mergeFwd .s 64 [] [] (bankOf 64 [(8, 0x3F800000#32), (40, 0x3F800000#32)])
        (bankOf 64 []))) = some [0x3FDA827A#32, 0x3E95F61A#32, 0xBF3504F3#32, 0x3F3504F3#32] := by decide +kernel

/-- R192's worked example: div = 32, k = 8. -/
theorem test_mergeInv_example :
    view (fun s => [s.readWord .xr 8, s.readWord .xr 40, s.readWord .xi 8, s.readWord .xi 40])
      (exec .mergeInv (running .inv .mergeInv .s 64 [] [] (bankOf 64 [(8, 0x3F800000#32), (40, 0x3F800000#32)])
        (bankOf 64 []))) = some [0x3FDA827A#32, 0x3E95F61A#32, 0x3F3504F3#32, 0xBF3504F3#32] := by decide +kernel

/-- R192: at div = 2048, k = 1, c = 0x3F7FFFEC, s = 0x3ACA62C2. -/
theorem test_inverse_twiddle : twI 1 2048 = (Fl.ofWord 0x3F7FFFEC#32, Fl.ofWord 0x3ACA62C2#32) := by decide +kernel

/-- R197 and R240: N = 32 forward copies back and completes. -/
theorem test_copyback_completes :
    view (fun s => (s.readWord .xr 5, s.statusWord, s.role))
      (exec .copyback (running .fwd .copyback .s 32 [] [] (bankOf 32 [(5, 0x7FA00001#32)]) (bankOf 32 []))) =
      some (0x7FA00001#32, 0x00000002#32, .x) := by decide +kernel

/-- R220's worked example, N = 32, and the tie `0x80000010 / 32`, which gives -0. -/
theorem test_normalize_32 :
    view (fun s => ([s.readWord .xr 0, s.readWord .xr 1, s.readWord .xr 3, s.readWord .xr 4], s.statusWord))
      (exec .normalize (running .inv .normalize .x 32
        (bankOf 32 [(0, 0x42000000#32), (1, 0x3F800000#32), (3, 0x7F7FFFFF#32), (4, 0x80000010#32)])
        (bankOf 32 []) [] [])) =
      some ([0x3F800000#32, 0x3D000000#32, 0x7CFFFFFF#32, 0x80000000#32], 0x0000000A#32) := by decide +kernel

/-! ### Witnesses: for every statement with hypotheses, a state and operands that meet them -/

theorem witness_DecodeEncodeAgree : Instr.fftFwd.wf = true ∧ (Instr.badCmd 0xFFFFFFF#28 2#4).wf = true ∧
    (Instr.wr 0xFFFFFF#24 0xFFFFFFFF#32).wf = true := by decide

theorem witness_EncodeDecodeAgree :
    decode (.bus { dir := .w, addr := 0x000004#24, data := 0x00000003#32 }) = .ok (.badCmd 0#28 3#4) ∧
    decode (.bus { dir := .r, addr := 0x000008#24, data := 0x00000101#32 }) = .ok (.rd 0x000008#24) ∧
    decode (.phase 8#4) = .ok .normalize := ⟨rfl, rfl, rfl⟩

theorem witness_PhaseCodesDecode : 9 ≤ (9#4).toNat ∧ 9 ≤ (15#4).toNat ∧
    (Phase.normalize, Instr.normalize) ∈ [(Phase.validate, Instr.validate), (.normalize, .normalize)] := by decide

theorem witness_ByteLanesLittleEndian : (0 : Nat) < 4 ∧ 3 < 4 ∧ (0 : Nat) < 8 ∧ 7 < 8 := by decide

/-- A pending read. -/
def pendingRead (s : State) : State :=
  { s with host := [.access { dir := .r, addr := 0x000008#24, data := 0#32 }] }

theorem witness_StepRunsDecodedInstruction_access :
    (pendingRead State.reset).host = .access { dir := .r, addr := 0x000008#24, data := 0#32 } :: [] := by decide

theorem witness_StepRunsDecodedInstruction_reset : ({ State.reset with host := [.reset] } : State).host = .reset :: [] := by
  decide

theorem witness_StepRunsDecodedInstruction_idle : State.reset.host = [] ∧ State.reset.busy = false := by decide

theorem witness_StepRunsDecodedInstruction_turn :
    let s := { running .fwd .permute .x 32 [] [] [] [] with host := [.turn] }
    s.host = .turn :: [] ∧ s.busy = true ∧ decode (.phase s.phase.code) = .ok .permute := ⟨rfl, rfl, rfl⟩

theorem witness_StepRunsDecodedInstruction_stuck :
    (running .fwd .idle .x 32 [] [] [] []).host = [] ∧ (running .fwd .idle .x 32 [] [] [] []).busy = true ∧
    (running .fwd .idle .x 32 [] [] [] []).phase = .idle := by decide

theorem witness_PollReadsUntilMatch :
    let s := { State.reset with host := [.poll 0x000008#24 3#32 2#32, .turn] }
    s.host = .poll 0x000008#24 3#32 2#32 :: [.turn] ∧
    ∃ t, exec (.rd 0x000008#24) { s with host := [.turn] } = .next t ∧ t.rdata &&& 3#32 ≠ 2#32 :=
  ⟨rfl, _, rfl, by decide⟩

theorem witness_FetchWordIsRunNext : decodeTableWord 32 0x00000002 = some .fftInv ∧
    decodeTableWord 12 0x00000800 = some .normalize := by decide

theorem witness_InvAtReset : ({ log2Nmax := 5, backend := .scalar, lanes := 1 } : Params).wf ∧
    ({ log2Nmax := 20, backend := .vecArm, lanes := 255 } : Params).wf ∧ Params.default.wf := by decide

/-- The invariant of a state with empty banks, from its control part. -/
theorem inv_of_empty_banks {s : State} (hp : s.cfg.wf) (hr : s.rom = romContents)
    (hb : s.xr = [] ∧ s.xi = [] ∧ s.sr = [] ∧ s.si = []) (hc : s.ControlOk) (hq : s.PhaseOk) : s.Inv where
  params := hp
  rom := hr
  banks := by
    obtain ⟨h1, h2, h3, h4⟩ := hb
    intro b
    cases b <;> simp [State.bank, h1, h2, h3, h4, bankWithin, Bank.wf]
  control := hc
  phase := hq

theorem witness_reset_inv : State.reset.Inv :=
  inv_of_empty_banks (by decide) rfl ⟨rfl, rfl, rfl, rfl⟩ ⟨by decide, by decide, by decide⟩ ⟨rfl, rfl⟩

theorem witness_validate_inv : (running .fwd .validate .x 32 [] [] [] []).Inv :=
  inv_of_empty_banks (by decide) rfl ⟨rfl, rfl, rfl, rfl⟩ ⟨by decide, by decide, by decide⟩ ⟨rfl, rfl, rfl⟩

theorem witness_permute_inv (d : Dir) : (running d .permute .x 32 [] [] [] []).Inv :=
  inv_of_empty_banks (s := running d .permute .x 32 [] [] [] []) (by decide : Params.default.wf) rfl
    ⟨rfl, rfl, rfl, rfl⟩ (by cases d <;> exact ⟨by decide, by decide, by decide⟩)
    ⟨rfl, rfl, rfl, 5, by decide, (by decide : 5 ≤ Params.default.log2Nmax), rfl⟩

theorem witness_merge_inv : (running .inv .mergeInv .s 64 [] [] [] []).Inv :=
  inv_of_empty_banks (by decide) rfl ⟨rfl, rfl, rfl, rfl⟩ ⟨by decide, by decide, by decide⟩
    ⟨by decide, rfl, by decide, ⟨6, by decide, by decide, rfl⟩, rfl⟩

theorem witness_base_inv :
    ({ running .fwd .baseFwd .s 64 [] [] [] [] with cursor := [0, 1] } : State).Inv :=
  inv_of_empty_banks (by decide) rfl ⟨rfl, rfl, rfl, rfl⟩ ⟨by decide, by decide, by decide⟩
    ⟨rfl, rfl, ⟨6, by decide, by decide, rfl⟩, rfl, by decide, by decide, by decide⟩

theorem witness_StepKeepsInv : (running .inv .mergeInv .s 64 [] [] [] []).Inv ∧
    ∃ t, step (running .inv .mergeInv .s 64 [] [] [] []) = .next t := ⟨witness_merge_inv, _, rfl⟩

theorem witness_InvStateAlwaysSteps : State.reset.Inv ∧
    ({ running .fwd .baseFwd .s 64 [] [] [] [] with cursor := [0, 1] } : State).Inv :=
  ⟨witness_reset_inv, witness_base_inv⟩

theorem witness_StepKeepsRomAndInstance : ∃ t, step State.reset = .next t := ⟨_, rfl⟩

theorem witness_ResetPutsResetState : (running .inv .mergeInv .s 64 [] [] [] []).rom = romContents := rfl

theorem witness_ResetDrawsBanksAnew :
    ({ running .inv .mergeInv .s 64 [] [] [] [] with host := [.reset, .turn] } : State).host = .reset :: [.turn] := rfl

theorem witness_LegalCommandAccepted : (withLen 64).busy = false := by decide

theorem witness_CommandWhileBusyOverruns : (running .fwd .validate .x 32 [] [] [] []).busy = true := by decide

theorem witness_IllegalWordIsBadCommand : (withLen 64).busy = false ∧ (Instr.badCmd 0#28 0#4).wf = true ∧
    (Instr.badCmd 0xFFFFFFF#28 1#4).wf = true ∧ (0x00000000#32 : Word) ≠ 0x00000001#32 ∧
    (0x00000000#32 : Word) ≠ 0x00000002#32 := by decide

theorem witness_CapIsConstantOfInstance : State.reset.cfg.wf ∧ ∃ t, step State.reset = .next t := ⟨by decide, _, rfl⟩

theorem witness_ValidateLatchesLegalLength :
    (withLen 65536).cfg.wf ∧ (withLen 65536).lenRe = (withLen 65536).lenIm ∧ (withLen 65536).lenRe.toNat = 2 ^ 16 ∧
    5 ≤ 16 ∧ 16 ≤ (withLen 65536).cfg.log2Nmax := by decide

theorem witness_ValidateRaisesFirstError_shape :
    ({ withLen 64 with lenIm := 32#32 } : State).lenRe ≠ ({ withLen 64 with lenIm := 32#32 } : State).lenIm := by decide

theorem witness_ValidateRaisesFirstError_below : (withLen 16).lenRe = (withLen 16).lenIm ∧ (withLen 16).lenRe.toNat < 32 := by
  decide

theorem witness_ValidateRaisesFirstError_no_power :
    (withLen 33).lenRe = (withLen 33).lenIm ∧ ¬ ∃ k, (withLen 33).lenRe.toNat = 2 ^ k := by
  refine ⟨by decide, fun ⟨k, hk⟩ => ?_⟩
  have h33 : 33 = 2 ^ k := hk
  have h1 : k < 6 := (Nat.pow_lt_pow_iff_right (by decide : 1 < 2)).1 (by rw [← h33]; decide)
  interval_cases k <;> simp at h33

theorem witness_ValidateRaisesFirstError_above :
    (withLen 131072).lenRe = (withLen 131072).lenIm ∧ (∃ k, 5 ≤ k ∧ (withLen 131072).lenRe.toNat = 2 ^ k) ∧
    2 ^ (withLen 131072).cfg.log2Nmax < (withLen 131072).lenRe.toNat := ⟨by decide, ⟨17, by decide, by decide⟩, by decide⟩

theorem witness_PermuteMovesWords :
    let s := running .fwd .permute .x 64 [] [] [] []
    0 < s.nLat ∧ 63 < s.nLat ∧ s.nLat ≤ 64 := by decide

theorem witness_PermuteSourceIsBijection : 5 ≤ 5 ∧ 5 ≤ 20 := by decide

theorem witness_PermTableIsBitReversal : 0 < 2 ^ 0 ∧ 7 < 2 ^ 3 := by decide

theorem witness_BaseFwdTransformsOneSection :
    let s := { running .fwd .baseFwd .s 64 [] [] [] [] with cursor := [1], picks := [7] }
    s.cursor ≠ [] ∧ (31 : Nat) < 32 ∧ (31 < 32 * 1) ∧ 32 * 1 + 32 ≤ 64 := by decide

theorem witness_BaseInvTransformsOneSection :
    let s := { running .inv .baseInv .s 64 [] [] [] [] with cursor := [0, 1] }
    s.cursor ≠ [] ∧ (0 : Nat) < 32 ∧ 32 * 0 + 32 ≤ 32 := by decide

theorem witness_NanSpoilsWholeSection :
    ((Fl.zero, Fl.nan) :: List.replicate 31 (Fl.zero, Fl.zero)).length = 32 ∧
    ∃ x ∈ (Fl.zero, Fl.nan) :: List.replicate 31 (Fl.zero, Fl.zero), x.1 = .nan ∨ x.2 = .nan :=
  ⟨by decide, (Fl.zero, Fl.nan), by simp, Or.inr rfl⟩

theorem witness_ReductionOrderOfBackend : (List.replicate 32 Fl.one).length = 32 := by decide

theorem witness_MergeFwdRunsOneStage :
    let s := running .fwd .mergeFwd .s 64 [] [] [] []
    (31 : Nat) < 32 * 2 ^ s.stage.toNat ∧
    2 * 0 * (32 * 2 ^ s.stage.toNat) + 2 * (32 * 2 ^ s.stage.toNat) ≤ s.nLat ∧ s.nLat ≤ 64 := by decide

theorem witness_MergeInvRunsOneStage :
    let s := { running .inv .mergeInv .x 128 [] [] [] [] with stage := 1#5 }
    (63 : Nat) < 32 * 2 ^ s.stage.toNat ∧
    2 * 0 * (32 * 2 ^ s.stage.toNat) + 2 * (32 * 2 ^ s.stage.toNat) ≤ s.nLat ∧ s.nLat ≤ 128 := by decide

theorem witness_CopybackMovesResult :
    (running .inv .copyback .s 32 [] [] [] []).dir = .inv ∧ (running .fwd .copyback .s 32 [] [] [] []).dir = .fwd ∧
    31 < (running .fwd .copyback .s 32 [] [] [] []).nLat ∧ (running .fwd .copyback .s 32 [] [] [] []).nLat ≤ 32 := by decide

theorem witness_NormalizeDividesByN :
    31 < (running .inv .normalize .x 32 [] [] [] []).nLat ∧ (running .inv .normalize .x 32 [] [] [] []).nLat ≤ 32 := by decide

theorem witness_ScalerDivisionIsMultiplication : 5 ≤ 5 ∧ 5 ≤ 20 ∧ 20 ≤ 20 ∧ (Fl.fin true 1 0).wf = true := by decide

/-- The boundaries of the address map: the last register word, the first reserved word, both windows' first and last
addresses, and the first index at NMAX. -/
theorem witness_AddressMapIsTotal :
    (0x000014#24 : Addr).toNat = 20 ∧ (0x400000#24 : Addr).toNat = 0x400000 + 4 * 0 ∧
    (0x43FFFC#24 : Addr).toNat = 0x400000 + 4 * 65535 ∧ 65535 < 2 ^ 20 ∧ 65535 < 2 ^ Params.default.log2Nmax ∧
    (0x83FFFC#24 : Addr).toNat = 0x800000 + 4 * 65535 := by decide

theorem witness_RefusedAccessSetsAccerr_misaligned : (0x000006#24 : Addr).toNat % 4 ≠ 0 := by decide

theorem witness_RefusedAccessSetsAccerr_reserved :
    0x18 ≤ (0x000018#24 : Addr).toNat ∧ (0x3FFFFC#24 : Addr).toNat < 0x400000 ∧ 0xC00000 ≤ (0xC00000#24 : Addr).toNat := by
  decide

theorem witness_RefusedAccessSetsAccerr_window :
    2 ^ State.reset.cfg.log2Nmax ≤ ((0x440000#24 : Addr).toNat - 0x400000) / 4 ∧ (0x440000#24 : Addr).toNat < 0x800000 ∧
    2 ^ State.reset.cfg.log2Nmax ≤ ((0xBFFFFC#24 : Addr).toNat - 0x800000) / 4 ∧ (0xBFFFFC#24 : Addr).toNat < 0xC00000 := by
  decide

theorem witness_RegisterWrites : State.reset.busy = false := by decide

theorem witness_WindowReadReturnsWord :
    State.reset.busy = false ∧ 65535 < 2 ^ 20 ∧ 65535 < 2 ^ State.reset.cfg.log2Nmax := by decide

theorem witness_WindowWriteStoresWord :
    State.reset.busy = false ∧ 0 < 2 ^ 20 ∧ 0 < 2 ^ State.reset.cfg.log2Nmax := by decide

theorem witness_DataLockedWhileBusy :
    let s := running .fwd .validate .x 32 [] [] [] []
    s.busy = true ∧ 65535 < 2 ^ 20 ∧ 65535 < 2 ^ s.cfg.log2Nmax ∧ (0x800000 = 0x400000 ∨ 0x800000 = 0x800000) := by decide

theorem witness_HostCannotDisturbCommand :
    let s := pendingRead (running .fwd .validate .x 32 [] [] [] [])
    s.busy = true ∧ s.host = .access { dir := .r, addr := 0x000008#24, data := 0#32 } :: [] ∧ ∃ t, step s = .next t :=
  ⟨rfl, rfl, _, rfl⟩

theorem witness_WordsAndValuesAgree :
    Fl.ofWord 0x7F800001#32 = .nan ∧ Fl.ofWord 0xFF7FFFFF#32 ≠ .nan ∧
    (0xFF800000#32 : Word).toNat / 2 ^ 23 % 256 = 255 ∧ (0xFF800000#32 : Word).toNat % 2 ^ 23 = 0 ∧
    (0x00000001#32 : Word).toNat / 2 ^ 23 % 256 < 255 ∧ (0x7F7FFFFF#32 : Word).toNat / 2 ^ 23 % 256 < 255 := by decide

theorem witness_NanPatternsAreTheDraws : Fl.ofWord 0xFFFFFFFF#32 = .nan ∧ [Fl.one, Fl.nan][1]? = some Fl.nan ∧
    Fl.nan.wf = true ∧ [Fl.one, Fl.nan][0]? = some Fl.one ∧ Fl.one.wf = true := by decide

theorem witness_RoundingIsNearestEven : 0 < 1 ∧ 0 < 3 := by decide

theorem witness_FmulFollowsRule : (Fl.fin true 1 0).wf = true ∧ (Fl.fin false 16777215 252).wf = true ∧
    fmul (.fin true 1 0) (.fin false 1 0) = .fin true 0 0 ∧ (1 : Nat) ≠ 0 := by decide +kernel

theorem witness_FaddFollowsRule : (Fl.fin true 0 0).wf = true ∧ (Fl.fin false 16777215 252).wf = true ∧
    (Fl.fin true 0 0).toReal + (Fl.fin true 0 0).toReal = 0 ∧ (Fl.fin false 1 0).toReal + (Fl.fin true 0 0).toReal ≠ 0 :=
  ⟨by decide, by decide, by simp [Fl.toReal], by simp [Fl.toReal]⟩

theorem witness_FdivRoundsQuotient : (Fl.fin false 8388608 131).wf = true ∧ (8388608 : Nat) ≠ 0 ∧
    (Fl.fin true 16 0).wf = true ∧ fdiv (.fin true 16 0) (.fin false 8388608 131) = .fin true 0 0 := by decide +kernel

theorem witness_FsqrtRoundsRoot : (1 : Nat) ≠ 0 ∧ (Fl.fin false 1 0).wf = true ∧ (Fl.fin false 16777215 252).wf = true := by
  decide

theorem witness_InverseTwiddleIsForward : 10 ≤ 10 ∧ 1023 < 2 ^ 10 ∧ 19 ≤ 19 ∧ 524287 < 2 ^ 19 ∧ 1 ≤ 1 ∧
    Fl.zero.IsFinite := ⟨by decide, by decide, by decide, by decide, by decide, by decide, false, 0, 0, rfl⟩

theorem witness_SampleSineIsDerived : 1023 < 1024 := by decide

theorem witness_SampleIndexQuantizes : 31 < 2 ^ 5 ∧ 5 ≤ 10 ∧ 524287 < 2 ^ 19 ∧ 10 < 19 := by decide

theorem witness_DerivedSineNeverNegative :
    (Fl.fin true 8388608 126).wf = true ∧ 8388608 * 2 ^ 126 ≤ 2 ^ 149 := by decide

theorem witness_RomSymmetries : 0 < 32 ∧ 31 < 32 ∧ 0 < 1024 ∧ 1 ≤ 1 ∧ 1023 < 1024 := by decide

theorem witness_CommandTakesExactSteps :
    let s := running .fwd .validate .x 32 [] [] [] []
    s.Inv ∧ s.phase = .validate ∧ s.host = [] ∧ s.lenRe = s.lenIm ∧ s.lenRe.toNat = 2 ^ 5 ∧ 5 ≤ 5 ∧
    5 ≤ s.cfg.log2Nmax ∧ 0 < commandSteps s.dir 5 :=
  ⟨witness_validate_inv, rfl, rfl, rfl, rfl, by decide, by decide, by decide⟩

theorem witness_WordsAboveLengthKept :
    let s := running .inv .mergeInv .s 64 [] [] [] []
    s.Inv ∧ (s.host = [] ∨ ∃ rest, s.host = .turn :: rest) ∧ (∃ t, step s = .next t) ∧ s.nLat ≤ 64 :=
  ⟨witness_merge_inv, .inl rfl, ⟨_, rfl⟩, by decide⟩

theorem witness_WordsAboveLengthKept_turn :
    let s := { running .fwd .validate .x 32 [] [] [] [] with host := [.turn, .reset] }
    s.Inv ∧ (s.host = [] ∨ ∃ rest, s.host = .turn :: rest) ∧ (∃ t, step s = .next t) ∧ s.nLat ≤ 32 :=
  ⟨inv_of_empty_banks (by decide) rfl ⟨rfl, rfl, rfl, rfl⟩ ⟨by decide, by decide, by decide⟩ ⟨rfl, rfl, rfl⟩,
    .inr ⟨_, rfl⟩, ⟨_, rfl⟩, by decide⟩

theorem witness_ResultIgnoresScratchAndSchedule :
    let s := running .fwd .permute .x 32 [] [] [] []
    s.Inv ∧ s.phase = .permute ∧ s.host = [] ∧ s.nLat = 2 ^ 5 ∧
    ∃ t, Host.Core.run Sys2Proof.core (commandSteps s.dir 5 - 1) s = .next t :=
  ⟨witness_permute_inv .fwd, rfl, rfl, rfl, _, rfl⟩

end Sys2Proof.Machine.Tests
end

section
/-! SUPPORT. What an instruction and a step can do, said once: the dispatch, the host accesses, the micro-operations,
the sequencer's turn. -/

namespace Sys2Proof.Machine

/-! ### The dispatch -/

theorem exec_fftFwd (s : State) : exec .fftFwd s = execFftFwd s := rfl
theorem exec_fftInv (s : State) : exec .fftInv s = execFftInv s := rfl
theorem exec_badCmd (rsv : BitVec 28) (opc : BitVec 4) (s : State) :
    exec (.badCmd rsv opc) s = execBadCmd rsv opc s := rfl
theorem exec_rd (a : Addr) (s : State) : exec (.rd a) s = execRd a s := rfl
theorem exec_wr (a : Addr) (v : Word) (s : State) : exec (.wr a v) s = execWr a v s := rfl

/-- The command a word stands for does what the write of the word to CMD does (rules R56, R230). -/
theorem exec_decodeCmd (v : Word) (s : State) : exec (decodeCmd v) s = .next (s.commandWrite v) := by
  unfold decodeCmd State.commandWrite
  by_cases h1 : v = 0x00000001#32
  · simp [h1, exec_fftFwd, execFftFwd]
  · by_cases h2 : v = 0x00000002#32
    · simp [h2, exec_fftInv, execFftInv]
    · simp [h1, h2, exec_badCmd, execBadCmd]

@[simp] theorem select_cmd (p : Params) : select p 0x000004#24 = some .cmd := rfl

/-- A bus transaction is a read or a write of its address, the write to CMD included (rules R55, R56). -/
theorem exec_decodeBus (t : BusTriple) (s : State) :
    exec (decodeBus t) s = execRd t.addr s ∨ exec (decodeBus t) s = execWr t.addr t.data s := by
  unfold decodeBus
  cases t.dir with
  | r => exact .inl rfl
  | w =>
    right
    by_cases ha : t.addr = cmdAddr
    · simp only [ha, if_true, exec_decodeCmd, execWr, cmdAddr, select_cmd]
    · simp only [ha, if_false, exec_wr]

/-! ### Host accesses -/

theorem registerAt_ne_re (n i : Nat) : registerAt n ≠ some (.re i) := by
  unfold registerAt; split <;> simp

theorem registerAt_ne_im (n i : Nat) : registerAt n ≠ some (.im i) := by
  unfold registerAt; split <;> simp

/-- A selected window word lies below NMAX (rules R53, R54). -/
theorem select_lt_nmax {p : Params} {a : Addr} {g : Target} {i : Nat} (h : select p a = some g)
    (hg : g = .re i ∨ g = .im i) : i < p.nmax := by
  unfold select at h
  simp only at h
  split_ifs at h
  all_goals rcases hg with rfl | rfl
  all_goals simp [registerAt_ne_re, registerAt_ne_im] at h
  all_goals omega

/-- A read changes only the word returned, ACCERR and the draw counter (rules R55, R57, R61). -/
theorem execRd_frame (a : Addr) (s : State) :
    ∃ acc w n, execRd a s = .next { s with accerr := acc, rdata := w, draws := n } := by
  unfold execRd State.readWindow
  split
  case h_8 | h_9 => split_ifs <;> exact ⟨_, _, _, rfl⟩
  all_goals exact ⟨_, _, _, rfl⟩

/-- What a write can reach: the host registers alone, where DONE is never set, a command, or, with BUSY = 0, one word
below NMAX (rules R56, R57, R61, R63). -/
theorem execWr_cases (a : Addr) (v : Word) (s : State) :
    (∃ ie d ovr acc lr li, (d = true → s.done = true) ∧
      execWr a v s = .next { s with ie := ie, done := d, ovr := ovr, accerr := acc, lenRe := lr, lenIm := li }) ∨
    execWr a v s = .next (s.commandWrite v) ∨
    ∃ b i, i < s.cfg.nmax ∧ s.busy = false ∧ execWr a v s = .next (s.writeWords b i [v]) := by
  unfold execWr
  split
  case h_3 => exact .inr (.inl rfl)
  case h_4 => exact .inl ⟨_, _, _, _, _, _, fun hd => (Bool.and_eq_true_iff.mp hd).1, rfl⟩
  case h_8 i hsel | h_9 i hsel =>
    have hi : i < s.cfg.nmax := select_lt_nmax hsel (by simp)
    by_cases hb : s.busy
    · exact .inl ⟨_, _, _, _, _, _, id, by rw [if_pos hb]; rfl⟩
    · exact .inr (.inr ⟨_, i, hi, by simpa using hb, by rw [if_neg hb]⟩)
  case h_6 | h_7 => split_ifs <;> exact .inl ⟨_, _, _, _, _, _, id, rfl⟩
  all_goals exact .inl ⟨_, _, _, _, _, _, id, rfl⟩

/-- What a word written to CMD can do: an overrun, or, with BUSY = 0, an acceptance or a refusal (rule R230). -/
theorem commandWrite_cases (v : Word) (s : State) :
    s.commandWrite v = s.overrun ∨ s.busy = false ∧
      ((∃ d, s.commandWrite v = s.acceptCommand d) ∨ s.commandWrite v = s.refuseBadCommand) := by
  unfold State.commandWrite
  split_ifs with hb h1 h2
  · exact .inl rfl
  · exact .inr ⟨by simpa using hb, .inl ⟨_, rfl⟩⟩
  · exact .inr ⟨by simpa using hb, .inl ⟨_, rfl⟩⟩
  · exact .inr ⟨by simpa using hb, .inr rfl⟩

/-! ### Lengths -/

theorem mergeStages_two_pow (k : Nat) : mergeStages (2 ^ k) = k - 5 := by
  rw [mergeStages, Nat.log2_two_pow, Config.log2B]

theorem sections_two_pow {k : Nat} (hk : 5 ≤ k) : sections (2 ^ k) = 2 ^ (k - 5) :=
  Nat.pow_div hk (by decide)

/-- A legal length is a whole number of sections (rule R14). -/
theorem LegalLength.eq_sections_mul {p : Params} {n : Nat} (h : LegalLength p n) : n = 32 * sections n := by
  obtain ⟨k, hk, -, rfl⟩ := h
  rw [sections_two_pow hk]
  exact (pow_mul_pow_sub 2 hk).symm

theorem LegalLength.sections_pos {p : Params} {n : Nat} (h : LegalLength p n) : 0 < sections n := by
  obtain ⟨k, hk, -, rfl⟩ := h
  rw [sections_two_pow hk]
  exact Nat.two_pow_pos _

theorem LegalLength.le_nmax {p : Params} {n : Nat} (h : LegalLength p n) : n ≤ p.nmax := by
  obtain ⟨k, -, hk, rfl⟩ := h
  exact Nat.pow_le_pow_right (by decide) hk

theorem LegalLength.mergeStages_le {p : Params} {n : Nat} (h : LegalLength p n) (hp : p.wf) : mergeStages n ≤ 15 := by
  obtain ⟨k, -, hk, rfl⟩ := h
  obtain ⟨-, hmax, -, -⟩ := hp
  rw [mergeStages_two_pow]
  omega

/-- A length that passes the second and third check of VALIDATE is legal (rules R234, R237, R238). -/
theorem legalLength_of_valid {p : Params} {a : Word} (hv : invalidLength a = false) (hle : a.toNat ≤ p.nmax) :
    LegalLength p a.toNat := by
  simp only [invalidLength, Bool.or_eq_false_iff, beq_eq_false_iff_ne, bne_eq_false_iff_eq] at hv
  obtain ⟨⟨h0, hand⟩, hlt⟩ := hv
  have hpos : a.toNat ≠ 0 := fun h => h0 (BitVec.eq_of_toNat_eq h)
  have hsub : (a - 1#32).toNat = a.toNat - 1 := by bv_omega
  have hpow : a.toNat &&& (a.toNat - 1) = 0 := by rw [← hsub, ← BitVec.toNat_and, hand]; rfl
  obtain ⟨k, hk⟩ := (Nat.and_sub_one_eq_zero_iff_isPowerOfTwo hpos).mp hpow
  have hge : 32 ≤ a.toNat := by
    by_contra hc
    exact Bool.false_ne_true (hlt.symm.trans (Nat.blt_eq.mpr (Nat.lt_of_not_le hc)))
  rw [hk] at hge hle ⊢
  exact ⟨k, (Nat.pow_le_pow_iff_right (a := 2) (by decide)).mp hge,
    (Nat.pow_le_pow_iff_right (a := 2) (by decide)).mp hle, rfl⟩

/-! ### The micro-operations -/

/-- VALIDATE ends the command with an error or latches a legal length; nothing else (rules R234, R239). -/
theorem execValidate_cases (s : State) :
    (∃ e, execValidate s = .next (s.raiseError e)) ∨
    (LegalLength s.cfg s.lenRe.toNat ∧
      execValidate s = .next { s with nLat := s.lenRe.toNat, role := .x, phase := .permute }) := by
  unfold execValidate
  split_ifs with h1 h2 h3
  · exact .inl ⟨_, rfl⟩
  · exact .inl ⟨_, rfl⟩
  · exact .inl ⟨_, rfl⟩
  · exact .inr ⟨legalLength_of_valid (by simpa using h2) (Nat.le_of_not_lt h3), rfl⟩

/-- The state after one section was transformed and left the cursor, before Tail (rules R171, R172, R174). -/
def State.afterSection (d : Dir) (j : Nat) (sec : Nat) (s : State) : State :=
  { s.transformSection d sec with cursor := s.cursor.eraseIdx j, picks := s.picks.tail }

@[simp] theorem afterSection_stage (d : Dir) (j sec : Nat) (s : State) : (s.afterSection d j sec).stage = s.stage :=
  writePairs_stage ..
@[simp] theorem afterSection_role (d : Dir) (j sec : Nat) (s : State) : (s.afterSection d j sec).role = s.role :=
  writePairs_role ..
@[simp] theorem afterSection_dir (d : Dir) (j sec : Nat) (s : State) : (s.afterSection d j sec).dir = s.dir :=
  writePairs_dir ..
@[simp] theorem afterSection_nLat (d : Dir) (j sec : Nat) (s : State) : (s.afterSection d j sec).nLat = s.nLat :=
  writePairs_nLat ..
@[simp] theorem afterSection_phase (d : Dir) (j sec : Nat) (s : State) : (s.afterSection d j sec).phase = s.phase :=
  writePairs_phase ..
@[simp] theorem afterSection_cursor (d : Dir) (j sec : Nat) (s : State) :
    (s.afterSection d j sec).cursor = s.cursor.eraseIdx j := rfl
@[simp] theorem afterSection_cfg (d : Dir) (j sec : Nat) (s : State) : (s.afterSection d j sec).cfg = s.cfg :=
  writePairs_cfg ..
@[simp] theorem afterSection_host (d : Dir) (j sec : Nat) (s : State) : (s.afterSection d j sec).host = s.host :=
  writePairs_host ..

/-- A BASE step with sections left transforms one of them, at some position of the cursor, and Tail follows when it
was the last (rules R171, R172, R174, R241). -/
theorem baseStep_cases (d : Dir) {s : State} (hc : s.cursor ≠ []) :
    ∃ j, ∃ hj : j < s.cursor.length, s.baseStep d =
      if s.cursor.eraseIdx j = [] then (s.afterSection d j s.cursor[j]).tail else s.afterSection d j s.cursor[j] := by
  cases ht : takeSection s.cursor s.picks with
  | none => exact absurd (takeSection_eq_none.mp ht) hc
  | some taken =>
    obtain ⟨sec, cursor, picks⟩ := taken
    obtain ⟨j, hj, rfl, rfl, rfl⟩ := takeSection_eq_some ht
    exact ⟨j, hj, by simp only [State.baseStep, ht]; rfl⟩

/-- The state after one merge stage, before Tail (rules R191, R192, R194). -/
def State.afterStage (d : Dir) (s : State) : State :=
  { s.writePairs s.role.other 0 ((List.range s.nLat).map (mergeValue d s.rom s.div (s.readPair s.role))) with
    role := s.role.other, stage := s.stage + 1#5 }

@[simp] theorem afterStage_stage (d : Dir) (s : State) : (s.afterStage d).stage = s.stage + 1#5 := rfl
@[simp] theorem afterStage_role (d : Dir) (s : State) : (s.afterStage d).role = s.role.other := rfl
@[simp] theorem afterStage_cursor (d : Dir) (s : State) : (s.afterStage d).cursor = s.cursor := writePairs_cursor ..
@[simp] theorem afterStage_nLat (d : Dir) (s : State) : (s.afterStage d).nLat = s.nLat := writePairs_nLat ..
@[simp] theorem afterStage_dir (d : Dir) (s : State) : (s.afterStage d).dir = s.dir := writePairs_dir ..
@[simp] theorem afterStage_phase (d : Dir) (s : State) : (s.afterStage d).phase = s.phase := writePairs_phase ..
@[simp] theorem afterStage_cfg (d : Dir) (s : State) : (s.afterStage d).cfg = s.cfg := writePairs_cfg ..
@[simp] theorem afterStage_host (d : Dir) (s : State) : (s.afterStage d).host = s.host := writePairs_host ..

/-- A MERGE step is one stage, and Tail follows when it was the last (rules R191, R192, R241). -/
theorem mergeStep_eq (d : Dir) (s : State) :
    s.mergeStep d = if (s.afterStage d).stage.toNat < mergeStages (s.afterStage d).nLat then s.afterStage d
      else (s.afterStage d).tail := rfl

/-- The move of words between the bank pairs that PERMUTE and COPYBACK make: word i of the pair of `r`, below N, takes
`re i` and `im i`, bit for bit (rules R153, R197). -/
def State.moveWords (r : Role) (re im : Nat → Word) (s : State) : State :=
  (s.writeWords r.re 0 ((List.range s.nLat).map re)).writeWords r.im 0 ((List.range s.nLat).map im)

@[simp] theorem moveWords_cfg (r : Role) (re im : Nat → Word) (s : State) :
    (s.moveWords r re im).cfg = s.cfg := by
  simp [State.moveWords]
@[simp] theorem moveWords_rom (r : Role) (re im : Nat → Word) (s : State) :
    (s.moveWords r re im).rom = s.rom := by
  simp [State.moveWords]
@[simp] theorem moveWords_nLat (r : Role) (re im : Nat → Word) (s : State) :
    (s.moveWords r re im).nLat = s.nLat := by
  simp [State.moveWords]
@[simp] theorem moveWords_stage (r : Role) (re im : Nat → Word) (s : State) :
    (s.moveWords r re im).stage = s.stage := by
  simp [State.moveWords]
@[simp] theorem moveWords_dir (r : Role) (re im : Nat → Word) (s : State) :
    (s.moveWords r re im).dir = s.dir := by
  simp [State.moveWords]
@[simp] theorem moveWords_cursor (r : Role) (re im : Nat → Word) (s : State) :
    (s.moveWords r re im).cursor = s.cursor := by
  simp [State.moveWords]
@[simp] theorem moveWords_phase (r : Role) (re im : Nat → Word) (s : State) :
    (s.moveWords r re im).phase = s.phase := by
  simp [State.moveWords]
@[simp] theorem moveWords_host (r : Role) (re im : Nat → Word) (s : State) :
    (s.moveWords r re im).host = s.host := by
  simp [State.moveWords]

/-- The state after PERMUTE (rule R153): the words moved to S, every section still to be transformed. -/
def State.permuted (s : State) : State :=
  { s.moveWords .s (fun i => s.readWord .xr (permuteSource s.nLat i))
      (fun i => s.readWord .xi (permuteSource s.nLat i)) with
    role := .s, cursor := List.range (sections s.nLat), phase := basePhase s.dir }

/-- The state after COPYBACK, before NORMALIZE or completion is chosen (rule R197). -/
def State.copiedBack (s : State) : State := { s.moveWords .x (s.readWord .sr) (s.readWord .si) with role := .x }

/-- The values NORMALIZE writes to X (rule R220). -/
def State.normalizedPairs (s : State) : List (Fl × Fl) :=
  (List.range s.nLat).map fun i =>
    (fdiv (s.readPair .x i).1 (Fl.ofNat s.nLat), fdiv (s.readPair .x i).2 (Fl.ofNat s.nLat))

theorem normalizedPairs_length (s : State) : s.normalizedPairs.length = s.nLat := by simp [State.normalizedPairs]

/-- The state after NORMALIZE, which completes the command (rule R220). -/
def State.normalized (s : State) : State := (s.writePairs .x 0 s.normalizedPairs).complete

/-- What the micro-operation of a PHASE code does in every state; IDLE names none (rules R84, R241). -/
theorem microOp_cases {p : Phase} {i : Instr} (h : decode (.phase p.code) = .ok i) :
    (p = .validate ∧ ∀ s, exec i s = execValidate s) ∨
    (p = .permute ∧ ∀ s, exec i s = .next s.permuted) ∨
    (∃ d, p = basePhase d ∧ ∀ s, exec i s = .next (s.baseStep d)) ∨
    (∃ d, p = mergePhase d ∧ ∀ s, exec i s = .next (s.mergeStep d)) ∨
    (p = .copyback ∧ ∀ s, exec i s = .next s.copiedBack.normalizeOrComplete) ∨
    (p = .normalize ∧ ∀ s, exec i s = .next s.normalized) := by
  cases p with
  | idle => cases h
  | validate => cases h; exact .inl ⟨rfl, fun _ => rfl⟩
  | permute => cases h; exact .inr (.inl ⟨rfl, fun _ => rfl⟩)
  | baseFwd => cases h; exact .inr (.inr (.inl ⟨.fwd, rfl, fun _ => rfl⟩))
  | baseInv => cases h; exact .inr (.inr (.inl ⟨.inv, rfl, fun _ => rfl⟩))
  | mergeFwd => cases h; exact .inr (.inr (.inr (.inl ⟨.fwd, rfl, fun _ => rfl⟩)))
  | mergeInv => cases h; exact .inr (.inr (.inr (.inl ⟨.inv, rfl, fun _ => rfl⟩)))
  | copyback => cases h; exact .inr (.inr (.inr (.inr (.inl ⟨rfl, fun _ => rfl⟩))))
  | normalize => cases h; exact .inr (.inr (.inr (.inr (.inr ⟨rfl, fun _ => rfl⟩))))

/-! ### A step -/

/-- A step that fetches the sequencer's turn: with BUSY = 0 nothing, with BUSY = 1 the micro-operation PHASE names
(rules R84, R241). -/
theorem step_cases_of_fetch_turn {s t u : State} (hf : fetch s = sequencerTurn u) (h : step s = .next t) :
    (u.busy = false ∧ t = u) ∨ (u.busy = true ∧ ∃ i, decode (.phase u.phase.code) = .ok i ∧ exec i u = .next t) := by
  rw [step, hf, sequencerTurn] at h
  by_cases hb : u.busy
  · right
    rw [if_pos hb] at h
    cases hd : decode (.phase u.phase.code) with
    | ok i => exact ⟨hb, i, rfl, by simpa [hd] using h⟩
    | error e => simp [hd] at h
  · rw [if_neg hb] at h
    exact .inl ⟨by simpa using hb, by simpa [eq_comm] using h⟩

/-- With no event pending, or at a turn, the step is the sequencer's turn. -/
theorem turn_cases {s t : State} (hhost : s.host = [] ∨ ∃ rest, s.host = .turn :: rest) (h : step s = .next t) :
    ∃ rest, (s.busy = false ∧ t = { s with host := rest }) ∨
      (s.busy = true ∧ ∃ i, decode (.phase s.phase.code) = .ok i ∧ exec i { s with host := rest } = .next t) := by
  rcases hhost with hh | ⟨rest, hh⟩
  · have hs : { s with host := [] } = s := by rw [← hh]
    exact ⟨[], by rw [hs]; exact step_cases_of_fetch_turn (by rw [fetch, hh]) h⟩
  · exact ⟨rest, step_cases_of_fetch_turn (u := { s with host := rest }) (by rw [fetch, hh]) h⟩

/-- Everything a step can do: the sequencer's turn, a reset, a bus transaction, or one read of a poll (rules R62, R64,
R88, R290). -/
theorem step_cases {s t : State} (h : step s = .next t) :
    ∃ rest, (s.busy = false ∧ t = { s with host := rest }) ∨
      (s.busy = true ∧ ∃ i, decode (.phase s.phase.code) = .ok i ∧ exec i { s with host := rest } = .next t) ∨
      t = ({ s with host := rest } : State).afterReset ∨
      (∃ a, execRd a { s with host := rest } = .next t) ∨
      (∃ a v, execWr a v { s with host := rest } = .next t) ∨
      ∃ a mask value u, execRd a { s with host := rest } = .next u ∧ t = afterPoll a mask value u := by
  cases hh : s.host with
  | nil =>
    obtain ⟨rest, hc⟩ := turn_cases (.inl hh) h
    exact ⟨rest, hc.imp id .inl⟩
  | cons e rest =>
    cases e with
    | turn =>
      obtain ⟨rest, hc⟩ := turn_cases (.inr ⟨_, hh⟩) h
      exact ⟨rest, hc.imp id .inl⟩
    | access tr =>
      have hx : exec (decodeBus tr) { s with host := rest } = .next t := by simpa [step, fetch, hh] using h
      rcases exec_decodeBus tr { s with host := rest } with hr | hw
      · exact ⟨rest, .inr (.inr (.inr (.inl ⟨_, hr ▸ hx⟩)))⟩
      · exact ⟨rest, .inr (.inr (.inr (.inr (.inl ⟨_, _, hw ▸ hx⟩))))⟩
    | poll a mask value =>
      obtain ⟨acc, w, n, hr⟩ := execRd_frame a { s with host := rest }
      refine ⟨rest, .inr (.inr (.inr (.inr (.inr ⟨a, mask, value, _, hr, ?_⟩))))⟩
      simpa [step, fetch, hh, exec_rd, hr, pollOutcome, eq_comm] using h
    | reset =>
      refine ⟨rest, .inr (.inr (.inl ?_))⟩
      simpa [step, fetch, hh, eq_comm] using h

/-- A poll that is not over puts events before the pending ones and changes nothing else (rule R88). -/
theorem afterPoll_frame (a : Addr) (mask value : Word) (s : State) :
    ∃ es, afterPoll a mask value s = { s with host := es } := by
  unfold afterPoll
  split_ifs <;> exact ⟨_, rfl⟩

end Sys2Proof.Machine
end

section
/-! SUPPORT. The host registers: the fields of STATUS, CTRL and CAP, reading and writing them, and what no step
changes. -/

namespace Sys2Proof.Machine

/-! ### Reads and writes of the registers -/

/-- Settles O38: the address selects the register, and the read leaves its word in `rdata`. -/
theorem registerReads : Obligations.RegisterReads := fun _ => ⟨rfl, rfl, rfl, rfl, rfl, rfl⟩

theorem execWr_ctrl (v : Word) (s : State) : execWr 0x000000#24 v s = .next (s.writeCtrl v) := rfl
theorem execWr_status (v : Word) (s : State) : execWr 0x000008#24 v s = .next (s.writeStatus v) := rfl
theorem execWr_cap (v : Word) (s : State) : execWr 0x00000C#24 v s = .next s := rfl
theorem execWr_lenRe (v : Word) (s : State) :
    execWr 0x000010#24 v s = .next (if s.busy then s.refuseAccess else { s with lenRe := v }) := rfl
theorem execWr_lenIm (v : Word) (s : State) :
    execWr 0x000014#24 v s = .next (if s.busy then s.refuseAccess else { s with lenIm := v }) := rfl

/-- A flag with its write-1-to-clear bit, as rule R23 says it. -/
theorem and_not_eq_ite (flag bit : Bool) : (flag && !bit) = if bit then false else flag := by
  cases bit <;> simp

/-- Settles O39, one register at a time, by what a write to its address does. -/
theorem registerWrites : Obligations.RegisterWrites := by
  intro s v
  refine ⟨execWr_ctrl v s, ?_, execWr_cap v s, fun hb => ⟨?_, ?_⟩⟩
  · rw [← and_not_eq_ite, ← and_not_eq_ite, ← and_not_eq_ite]
    exact execWr_status v s
  · exact (execWr_lenRe v s).trans (by rw [hb]; rfl)
  · exact (execWr_lenIm v s).trans (by rw [hb]; rfl)

/-! ### The fields of the register words -/

/-- The flags of STATUS (rule R23). -/
theorem statusWord_flags (s : State) :
    s.statusWord.getLsbD 0 = s.busy ∧ s.statusWord.getLsbD 1 = s.done ∧ s.statusWord.getLsbD 2 = s.irq ∧
    s.statusWord.getLsbD 24 = s.ovr ∧ s.statusWord.getLsbD 25 = s.accerr := by
  unfold State.statusWord
  refine ⟨?_, ?_, ?_, ?_, ?_⟩ <;> repeat rw [BitVec.getLsbD_append]
  all_goals simp

/-- STATUS with its width written as the sum of the widths of its parts, so that the parts can be taken off. -/
theorem statusWord_extractLsb' (s : State) (start len : Nat) :
    s.statusWord.extractLsb' start len = (0#6 ++ BitVec.ofBool s.accerr ++ BitVec.ofBool s.ovr ++ 0#7 ++ s.stage ++
      s.phase.code ++ errCode s.err ++ dirCode s.dir ++ BitVec.ofBool s.irq ++ BitVec.ofBool s.done ++
      BitVec.ofBool s.busy).extractLsb' start len :=
  rfl

/-- The wider fields of STATUS and its reserved ranges (rule R23). -/
theorem statusWord_fields (s : State) :
    s.statusWord.extractLsb' 3 1 = dirCode s.dir ∧ s.statusWord.extractLsb' 4 4 = errCode s.err ∧
    s.statusWord.extractLsb' 8 4 = s.phase.code ∧ s.statusWord.extractLsb' 12 5 = s.stage ∧
    s.statusWord.extractLsb' 17 7 = 0 ∧ s.statusWord.extractLsb' 26 6 = 0 := by
  refine ⟨?_, ?_, ?_, ?_, ?_, ?_⟩
  all_goals
    simp (disch := decide) only [statusWord_extractLsb', BitVec.extractLsb'_append_eq_of_le,
      BitVec.extractLsb'_append_eq_of_add_le, -Nat.reduceAdd]
    simp

/-- CTRL holds IE in bit 0 and nothing else (rule R22). -/
theorem ctrlWord_fields (s : State) : s.ctrlWord.getLsbD 0 = s.ie ∧ s.ctrlWord.extractLsb' 1 31 = 0 := by
  unfold State.ctrlWord
  cases s.ie <;> decide

/-- Settles O20, from the fields of the two words. -/
theorem statusAndCtrlLayout : Obligations.StatusAndCtrlLayout := by
  intro s
  obtain ⟨hbusy, hdone, hirq, hovr, hacc⟩ := statusWord_flags s
  obtain ⟨hdir, herr, hphase, hstage, hlow, hhigh⟩ := statusWord_fields s
  obtain ⟨hie, hrest⟩ := ctrlWord_fields s
  exact ⟨hbusy, hdone, hirq, rfl, hdir, herr, hphase, hstage, hlow, hovr, hacc, hhigh, hie, hrest, rfl, rfl, rfl⟩

/-! ### What no step changes -/

@[simp] theorem commandWrite_rom (v : Word) (s : State) : (s.commandWrite v).rom = s.rom := by
  unfold State.commandWrite; split_ifs <;> simp
@[simp] theorem commandWrite_cfg (v : Word) (s : State) : (s.commandWrite v).cfg = s.cfg := by
  unfold State.commandWrite; split_ifs <;> simp

@[simp] theorem transformSection_rom (d : Dir) (sec : Nat) (s : State) : (s.transformSection d sec).rom = s.rom :=
  writePairs_rom ..
@[simp] theorem transformSection_cfg (d : Dir) (sec : Nat) (s : State) : (s.transformSection d sec).cfg = s.cfg :=
  writePairs_cfg ..

@[simp] theorem baseStep_rom (d : Dir) (s : State) : (s.baseStep d).rom = s.rom := by
  unfold State.baseStep
  split
  · simp
  · simp only; split_ifs <;> simp
@[simp] theorem baseStep_cfg (d : Dir) (s : State) : (s.baseStep d).cfg = s.cfg := by
  unfold State.baseStep
  split
  · simp
  · simp only; split_ifs <;> simp

@[simp] theorem mergeStep_rom (d : Dir) (s : State) : (s.mergeStep d).rom = s.rom := by
  unfold State.mergeStep; simp only; split_ifs <;> simp
@[simp] theorem mergeStep_cfg (d : Dir) (s : State) : (s.mergeStep d).cfg = s.cfg := by
  unfold State.mergeStep; simp only; split_ifs <;> simp

/-- A micro-operation changes neither the ROMs nor the parameters. -/
theorem microOp_keeps_rom_cfg {p : Phase} {i : Instr} {s t : State} (hd : decode (.phase p.code) = .ok i)
    (hx : exec i s = .next t) : t.rom = s.rom ∧ t.cfg = s.cfg := by
  obtain ⟨-, hi⟩ | ⟨-, hi⟩ | ⟨d, -, hi⟩ | ⟨d, -, hi⟩ | ⟨-, hi⟩ | ⟨-, hi⟩ := microOp_cases hd
  · obtain ⟨e, he⟩ | ⟨-, he⟩ := execValidate_cases s <;> cases he.symm.trans ((hi s).symm.trans hx)
    · exact ⟨raiseError_rom .., raiseError_cfg ..⟩
    · exact ⟨rfl, rfl⟩
  all_goals
    cases (hi s).symm.trans hx
    simp [State.permuted, State.copiedBack, State.normalized]

theorem execRd_keeps_rom_cfg {a : Addr} {s t : State} (hx : execRd a s = .next t) : t.rom = s.rom ∧ t.cfg = s.cfg := by
  obtain ⟨acc, w, n, hr⟩ := execRd_frame a s
  cases hr.symm.trans hx
  exact ⟨rfl, rfl⟩

theorem execWr_keeps_rom_cfg {a : Addr} {v : Word} {s t : State} (hx : execWr a v s = .next t) :
    t.rom = s.rom ∧ t.cfg = s.cfg := by
  obtain ⟨_, _, _, _, _, _, -, hw⟩ | hw | ⟨b, i, -, -, hw⟩ := execWr_cases a v s <;> cases hw.symm.trans hx
  · exact ⟨rfl, rfl⟩
  · exact ⟨commandWrite_rom .., commandWrite_cfg ..⟩
  · exact ⟨writeWords_rom .., writeWords_cfg ..⟩

/-- Settles O13, by the cases of a step. -/
theorem stepKeepsRomAndInstance : Obligations.StepKeepsRomAndInstance := by
  intro s t h
  obtain ⟨rest, ⟨-, rfl⟩ | ⟨-, i, hd, hx⟩ | rfl | ⟨a, hx⟩ | ⟨a, v, hx⟩ | ⟨a, mask, value, u, hx, rfl⟩⟩ := step_cases h
  · exact ⟨rfl, rfl⟩
  · exact (microOp_keeps_rom_cfg (p := s.phase) hd hx :)
  · exact ⟨rfl, rfl⟩
  · exact (execRd_keeps_rom_cfg hx :)
  · exact (execWr_keeps_rom_cfg hx :)
  · obtain ⟨es, hes⟩ := afterPoll_frame a mask value u
    rw [hes]
    exact (execRd_keeps_rom_cfg hx :)

/-- CAP is a function of the parameters alone (rule R24). -/
theorem capWord_congr {s t : State} (h : t.cfg = s.cfg) : t.capWord = s.capWord := by
  unfold State.capWord; rw [h]

/-- CAP with the width of its concatenation written as the sum of its parts. -/
theorem capWord_extractLsb' (s : State) (start len : Nat) :
    s.capWord.extractLsb' start len = (BitVec.ofNat 8 s.cfg.lanes ++ 0#5 ++ backendCode s.cfg.backend ++ 0#3 ++
      BitVec.ofNat 5 s.cfg.log2Nmax ++ BitVec.ofNat 4 Config.log2S ++
      BitVec.ofNat 4 Config.log2B).extractLsb' start len :=
  rfl

/-- Settles O21: the fields stand at their offsets and hold their numbers when the parameters are legal; the access
clauses are those of the registers, and CAP is constant because no step changes the parameters. -/
theorem capIsConstantOfInstance : Obligations.CapIsConstantOfInstance := by
  intro s hwf
  obtain ⟨-, hmax, -, hlanes⟩ := hwf
  have hl : s.cfg.log2Nmax % 32 = s.cfg.log2Nmax := Nat.mod_eq_of_lt (by omega)
  have hn : s.cfg.lanes % 256 = s.cfg.lanes := Nat.mod_eq_of_lt (by omega)
  refine ⟨?_, ?_, ?_, ?_, ?_, ?_, ?_, rfl, fun v => execWr_cap v s,
    fun t h => capWord_congr (stepKeepsRomAndInstance s t h).2, by decide, ⟨rfl, rfl⟩, ⟨rfl, rfl⟩, ⟨rfl, rfl⟩,
    ⟨rfl, rfl⟩, ⟨rfl, rfl⟩, ⟨rfl, rfl⟩, fun b => by cases b <;> decide⟩
  all_goals
    simp (disch := decide) only [capWord_extractLsb', BitVec.extractLsb'_append_eq_of_le,
      BitVec.extractLsb'_append_eq_of_add_le, -Nat.reduceAdd]
    simp [hl, hn, Config.log2B, Config.log2S]

end Sys2Proof.Machine
end

section
/-! SUPPORT. The invariant of every run: what VALIDATE, Tail and each micro-operation keep of it, and so every step. -/

namespace Sys2Proof.Machine

/-! ### What the invariant says of the control state at each phase, BASE and MERGE for both directions at once -/

/-- The control state of a BASE phase of a direction, as the invariant has it (rules R35, R36, R241). -/
structure State.InBase (d : Dir) (s : State) : Prop where
  role     : s.role = .s
  stage    : s.stage = 0#5
  length   : LegalLength s.cfg s.nLat
  dir      : s.dir = d
  nonempty : s.cursor ≠ []
  cursor   : s.CursorOk

/-- The control state of a MERGE phase of a direction, as the invariant has it (rules R35, R36, R190). -/
structure State.InMerge (d : Dir) (s : State) : Prop where
  role   : s.role = if s.stage.toNat % 2 = 0 then .s else .x
  cursor : s.cursor = []
  stage  : s.stage.toNat < mergeStages s.nLat
  length : LegalLength s.cfg s.nLat
  dir    : s.dir = d

theorem State.Inv.atIdle {s : State} (h : s.Inv) (hp : s.phase = .idle) : s.role = .x ∧ s.cursor = [] := by
  simpa only [State.PhaseOk, hp] using h.phase

theorem State.Inv.atValidate {s : State} (h : s.Inv) (hp : s.phase = .validate) :
    s.role = .x ∧ s.cursor = [] ∧ s.stage = 0#5 := by
  simpa only [State.PhaseOk, hp] using h.phase

theorem State.Inv.atPermute {s : State} (h : s.Inv) (hp : s.phase = .permute) :
    s.role = .x ∧ s.cursor = [] ∧ s.stage = 0#5 ∧ LegalLength s.cfg s.nLat := by
  simpa only [State.PhaseOk, hp] using h.phase

theorem State.Inv.atCopyback {s : State} (h : s.Inv) (hp : s.phase = .copyback) :
    s.role = .s ∧ s.cursor = [] ∧ s.stage.toNat = mergeStages s.nLat ∧ LegalLength s.cfg s.nLat := by
  simpa only [State.PhaseOk, hp] using h.phase

theorem State.Inv.atNormalize {s : State} (h : s.Inv) (hp : s.phase = .normalize) :
    s.role = .x ∧ s.cursor = [] ∧ s.stage.toNat = mergeStages s.nLat ∧ LegalLength s.cfg s.nLat ∧ s.dir = .inv := by
  simpa only [State.PhaseOk, hp] using h.phase

theorem State.Inv.inBase {d : Dir} {s : State} (h : s.Inv) (hp : s.phase = basePhase d) : s.InBase d := by
  have hphase := h.phase
  cases d <;> simp only [State.PhaseOk, hp, basePhase] at hphase <;> obtain ⟨h1, h2, h3, h4, h5, h6⟩ := hphase <;>
    exact ⟨h1, h2, h3, h4, h5, h6⟩

theorem State.InBase.phaseOk {d : Dir} {s : State} (h : s.InBase d) (hp : s.phase = basePhase d) : s.PhaseOk := by
  cases d <;> simp only [State.PhaseOk, hp, basePhase] <;> exact ⟨h.1, h.2, h.3, h.4, h.5, h.6⟩

theorem State.Inv.inMerge {d : Dir} {s : State} (h : s.Inv) (hp : s.phase = mergePhase d) : s.InMerge d := by
  have hphase := h.phase
  cases d <;> simp only [State.PhaseOk, hp, mergePhase] at hphase <;> obtain ⟨h1, h2, h3, h4, h5⟩ := hphase <;>
    exact ⟨h1, h2, h3, h4, h5⟩

theorem State.InMerge.phaseOk {d : Dir} {s : State} (h : s.InMerge d) (hp : s.phase = mergePhase d) : s.PhaseOk := by
  cases d <;> simp only [State.PhaseOk, hp, mergePhase] <;> exact ⟨h.1, h.2, h.3, h.4, h.5⟩

theorem State.Inv.busy_of_phase {s : State} (h : s.Inv) (hp : s.phase ≠ .idle) : s.busy = true := h.control.1.mpr hp

theorem basePhase_ne_idle (d : Dir) : basePhase d ≠ .idle := by cases d <;> decide
theorem mergePhase_ne_idle (d : Dir) : mergePhase d ≠ .idle := by cases d <;> decide

/-- A section of the cursor lies below N (rule R170). -/
theorem State.InBase.section_le {d : Dir} {s : State} (h : s.InBase d) {sec : Nat} (hs : sec ∈ s.cursor) :
    32 * sec + 32 ≤ s.nLat := by
  have h1 := h.length.eq_sections_mul
  have h2 := h.cursor.2 sec hs
  omega

/-! ### A command past VALIDATE -/

/-- What holds from VALIDATE to the end of a command, whatever the micro-operation: the part of the invariant that
does not look at PHASE, ROLE, STAGE and the cursor. -/
structure State.InCommand (s : State) : Prop where
  params : s.cfg.wf
  rom    : s.rom = romContents
  banks  : s.BanksOk
  busy   : s.busy = true
  done   : s.done = false
  err    : s.err = .none
  length : LegalLength s.cfg s.nLat

theorem State.Inv.inCommand {s : State} (h : s.Inv) (hb : s.busy = true) (hl : LegalLength s.cfg s.nLat) :
    s.InCommand := by
  obtain ⟨-, hrun, -⟩ := h.control
  exact ⟨h.params, h.rom, h.banks, hb, (hrun hb).1, (hrun hb).2, hl⟩

/-- `InCommand` does not look at the control fields. -/
theorem State.InCommand.control {s : State} (h : s.InCommand) (p : Phase) (r : Role) (st : BitVec 5)
    (cur picks : List Nat) :
    ({ s with phase := p, role := r, stage := st, cursor := cur, picks := picks } : State).InCommand :=
  ⟨h.params, h.rom, h.banks, h.busy, h.done, h.err, h.length⟩

/-- A command whose control state fits its phase meets the invariant. -/
theorem State.InCommand.inv {s : State} (h : s.InCommand) (hidle : s.phase ≠ .idle) (hphase : s.PhaseOk)
    (hstage : s.stage.toNat ≤ mergeStages s.nLat) : s.Inv where
  params := h.params
  rom := h.rom
  banks := h.banks
  control := ⟨by simp [h.busy, hidle], fun _ => ⟨h.done, h.err⟩, hstage.trans (h.length.mergeStages_le h.params)⟩
  phase := hphase

/-- A command that goes on to a phase its control state fits meets the invariant. -/
theorem State.InCommand.phase_inv {s : State} (h : s.InCommand) (p : Phase) (hidle : p ≠ .idle)
    (hphase : ({ s with phase := p } : State).PhaseOk) (hstage : s.stage.toNat ≤ mergeStages s.nLat) :
    ({ s with phase := p } : State).Inv :=
  (h.control p s.role s.stage s.cursor s.picks).inv hidle hphase hstage

/-- Completion (rule R240) ends in a state that meets the invariant. -/
theorem State.InCommand.complete_inv {s : State} (h : s.InCommand) (hr : s.role = .x) (hc : s.cursor = [])
    (hstage : s.stage.toNat ≤ mergeStages s.nLat) : s.complete.Inv where
  params := h.params
  rom := h.rom
  banks := h.banks
  control := ⟨by simp, by simp, hstage.trans (h.length.mergeStages_le h.params)⟩
  phase := ⟨hr, hc⟩

/-- After the last stage with the result in X, the command normalizes or completes (rule R241). -/
theorem State.InCommand.normalizeOrComplete_inv {s : State} (h : s.InCommand) (hr : s.role = .x)
    (hc : s.cursor = []) (hstage : s.stage.toNat = mergeStages s.nLat) : s.normalizeOrComplete.Inv := by
  unfold State.normalizeOrComplete
  split
  next hd => exact h.phase_inv .normalize (by decide) ⟨hr, hc, hstage, h.length, hd⟩ hstage.le
  next => exact h.complete_inv hr hc hstage.le

/-- Tail (rule R241), with an empty cursor, at most M stages done and ROLE following the parity of STAGE. -/
theorem State.InCommand.tail_inv {s : State} (h : s.InCommand) (hc : s.cursor = [])
    (hstage : s.stage.toNat ≤ mergeStages s.nLat) (hr : s.role = if s.stage.toNat % 2 = 0 then .s else .x) :
    s.tail.Inv := by
  obtain ⟨hlt, ht⟩ | ⟨hle, hrole, ht⟩ | ⟨hle, hrole, hd, ht⟩ | ⟨hle, hrole, hd, ht⟩ := tail_cases s <;> rw [ht]
  · have hm : ({ s with phase := mergePhase s.dir } : State).InMerge s.dir := ⟨hr, hc, hlt, h.length, rfl⟩
    exact h.phase_inv _ (mergePhase_ne_idle _) (hm.phaseOk rfl) hstage
  · exact h.phase_inv .copyback (by decide) ⟨hrole, hc, le_antisymm hstage hle, h.length⟩ hstage
  · exact h.phase_inv .normalize (by decide) ⟨hrole, hc, le_antisymm hstage hle, h.length, hd⟩ hstage
  · exact h.complete_inv hrole hc hstage

/-- Writing computed values below NMAX leaves a command a command. -/
theorem State.InCommand.writePairs {s : State} (h : s.InCommand) {r : Role} {lo : Nat} {ps : List (Fl × Fl)}
    (hw : lo + ps.length ≤ s.cfg.nmax) : (s.writePairs r lo ps).InCommand where
  params := by simpa using h.params
  rom := by simpa using h.rom
  banks := writePairs_banksOk h.banks hw
  busy := by simpa using h.busy
  done := by simpa using h.done
  err := by simpa using h.err
  length := by simpa using h.length

/-- Moving words below NMAX leaves a command a command. -/
theorem State.InCommand.writeWords {s : State} (h : s.InCommand) {b : BankId} {lo : Nat} {ws : List Word}
    (hw : lo + ws.length ≤ s.cfg.nmax) : (s.writeWords b lo ws).InCommand where
  params := by simpa using h.params
  rom := by simpa using h.rom
  banks := writeWords_banksOk h.banks hw
  busy := by simpa using h.busy
  done := by simpa using h.done
  err := by simpa using h.err
  length := by simpa using h.length

/-! ### The micro-operations keep the invariant -/

theorem State.CursorOk.eraseIdx {s : State} (h : s.CursorOk) (j : Nat) :
    (s.cursor.eraseIdx j).Pairwise (· < ·) ∧ ∀ sec ∈ s.cursor.eraseIdx j, sec < sections s.nLat :=
  ⟨h.1.sublist (List.eraseIdx_sublist ..), fun sec hs => h.2 sec (List.mem_of_mem_eraseIdx hs)⟩

theorem State.InCommand.afterSection {s : State} (h : s.InCommand) (d : Dir) (j : Nat) {sec : Nat}
    (hsec : 32 * sec + 32 ≤ s.nLat) : (s.afterSection d j sec).InCommand := by
  have hw : (s.transformSection d sec).InCommand :=
    h.writePairs (by simpa [Config.B] using hsec.trans h.length.le_nmax)
  exact hw.control ..

theorem baseStep_inv {d : Dir} {s : State} (h : s.Inv) (hp : s.phase = basePhase d) : (s.baseStep d).Inv := by
  have hb : s.InBase d := h.inBase hp
  obtain ⟨j, hj, hstep⟩ := baseStep_cases d hb.nonempty
  have hcmd : (s.afterSection d j s.cursor[j]).InCommand :=
    (h.inCommand (h.busy_of_phase (hp ▸ basePhase_ne_idle d)) hb.length).afterSection d j
      (hb.section_le (List.getElem_mem hj))
  have hstage : (s.afterSection d j s.cursor[j]).stage = 0#5 := (afterSection_stage ..).trans hb.stage
  have hrole : (s.afterSection d j s.cursor[j]).role = .s := (afterSection_role ..).trans hb.role
  rw [hstep]
  split_ifs with hlast
  · exact hcmd.tail_inv hlast (by simp [hb.stage]) (by simp [hb.stage, hb.role])
  · have hnext : (s.afterSection d j s.cursor[j]).InBase d :=
      ⟨hrole, hstage, hcmd.length, (afterSection_dir ..).trans hb.dir, hlast, by
        rw [State.CursorOk, afterSection_nLat]; exact hb.cursor.eraseIdx j⟩
    have hphase := (afterSection_phase d j s.cursor[j] s).trans hp
    exact hcmd.inv (hphase ▸ basePhase_ne_idle d) (hnext.phaseOk hphase) (by simp [hb.stage])

theorem role_other_of_parity {r : Role} {n : Nat} (h : r = if n % 2 = 0 then .s else .x) :
    r.other = if (n + 1) % 2 = 0 then .s else .x := by
  rcases Nat.mod_two_eq_zero_or_one n with hn | hn <;> simp [h, hn, Nat.add_mod, Role.other]

theorem State.InCommand.afterStage {s : State} (h : s.InCommand) (d : Dir) : (s.afterStage d).InCommand := by
  have hw : (s.writePairs s.role.other 0
      ((List.range s.nLat).map (mergeValue d s.rom s.div (s.readPair s.role)))).InCommand :=
    h.writePairs (by simpa using h.length.le_nmax)
  exact hw.control ..

theorem mergeStep_inv {d : Dir} {s : State} (h : s.Inv) (hp : s.phase = mergePhase d) : (s.mergeStep d).Inv := by
  have hm : s.InMerge d := h.inMerge hp
  have hcmd : (s.afterStage d).InCommand :=
    (h.inCommand (h.busy_of_phase (hp ▸ mergePhase_ne_idle d)) hm.length).afterStage d
  have hcount : (s.afterStage d).stage.toNat = s.stage.toNat + 1 := by
    have hle := hm.stage.trans_le (hm.length.mergeStages_le h.params)
    rw [afterStage_stage]
    bv_omega
  have hcursor : (s.afterStage d).cursor = [] := (afterStage_cursor d s).trans hm.cursor
  have hstage : (s.afterStage d).stage.toNat ≤ mergeStages (s.afterStage d).nLat := by
    rw [hcount, afterStage_nLat]; exact hm.stage
  have hrole : (s.afterStage d).role = if (s.afterStage d).stage.toNat % 2 = 0 then .s else .x := by
    rw [hcount]; exact role_other_of_parity hm.role
  have hphase : (s.afterStage d).phase = mergePhase d := (afterStage_phase d s).trans hp
  rw [mergeStep_eq]
  split_ifs with hmore
  · have hnext : (s.afterStage d).InMerge d :=
      ⟨hrole, hcursor, hmore, hcmd.length, (afterStage_dir d s).trans hm.dir⟩
    exact hcmd.inv (hphase ▸ mergePhase_ne_idle d) (hnext.phaseOk hphase) hstage
  · exact hcmd.tail_inv hcursor hstage hrole

theorem State.InCommand.moveWords {s : State} (h : s.InCommand) (r : Role) (re im : Nat → Word) :
    (s.moveWords r re im).InCommand := by
  have h1 : (s.writeWords r.re 0 ((List.range s.nLat).map re)).InCommand :=
    h.writeWords (by simpa using h.length.le_nmax)
  exact h1.writeWords (by simpa using h.length.le_nmax)

theorem permuted_inv {s : State} (h : s.Inv) (hp : s.phase = .permute) : s.permuted.Inv := by
  obtain ⟨-, -, hstage, hlen⟩ := h.atPermute hp
  have hmoved := (h.inCommand (h.busy_of_phase (by simp [hp])) hlen).moveWords .s
    (fun i => s.readWord .xr (permuteSource s.nLat i)) (fun i => s.readWord .xi (permuteSource s.nLat i))
  have hcmd : s.permuted.InCommand := hmoved.control ..
  have hst : s.permuted.stage = 0#5 := (moveWords_stage ..).trans hstage
  have hbase : s.permuted.InBase s.dir :=
    ⟨rfl, hst, hcmd.length, moveWords_dir .., by simpa [State.permuted] using hlen.sections_pos.ne',
      List.pairwise_lt_range, by simp [State.permuted]⟩
  exact hcmd.inv (basePhase_ne_idle _) (hbase.phaseOk rfl) (by simp [hst])

theorem copiedBack_inv {s : State} (h : s.Inv) (hp : s.phase = .copyback) : s.copiedBack.normalizeOrComplete.Inv := by
  obtain ⟨-, hcursor, hstage, hlen⟩ := h.atCopyback hp
  have hmoved := (h.inCommand (h.busy_of_phase (by simp [hp])) hlen).moveWords .x (s.readWord .sr) (s.readWord .si)
  have hcmd : s.copiedBack.InCommand := hmoved.control ..
  exact hcmd.normalizeOrComplete_inv rfl (by simpa [State.copiedBack] using hcursor)
    (by simpa [State.copiedBack] using hstage)

theorem normalized_inv {s : State} (h : s.Inv) (hp : s.phase = .normalize) : s.normalized.Inv := by
  obtain ⟨hrole, hcursor, hstage, hlen, -⟩ := h.atNormalize hp
  have hcmd : (s.writePairs .x 0 s.normalizedPairs).InCommand :=
    (h.inCommand (h.busy_of_phase (by simp [hp])) hlen).writePairs (by
      rw [normalizedPairs_length, Nat.zero_add]; exact hlen.le_nmax)
  exact hcmd.complete_inv (by simpa using hrole) (by simpa using hcursor) (by simp [hstage])

theorem execValidate_inv {s t : State} (h : s.Inv) (hp : s.phase = .validate) (ht : execValidate s = .next t) :
    t.Inv := by
  obtain ⟨hrole, hcursor, hstage⟩ := h.atValidate hp
  have hbusy := h.busy_of_phase (by simp [hp])
  obtain ⟨-, hrun, hle⟩ := h.control
  obtain ⟨e, he⟩ | ⟨hlen, he⟩ := execValidate_cases s <;> cases he.symm.trans ht
  · exact ⟨h.params, h.rom, h.banks, ⟨by simp, by simp, hle⟩, hrole, hcursor⟩
  · exact ⟨h.params, h.rom, h.banks, ⟨by simp [hbusy], fun _ => hrun hbusy, hle⟩, rfl, hcursor, hstage, hlen⟩

/-- Every micro-operation keeps the invariant. -/
theorem microOp_inv {i : Instr} {s t : State} (h : s.Inv) (hd : decode (.phase s.phase.code) = .ok i)
    (hx : exec i s = .next t) : t.Inv := by
  obtain ⟨hp, hi⟩ | ⟨hp, hi⟩ | ⟨d, hp, hi⟩ | ⟨d, hp, hi⟩ | ⟨hp, hi⟩ | ⟨hp, hi⟩ := microOp_cases hd
  · exact execValidate_inv h hp ((hi s).symm.trans hx)
  all_goals cases (hi s).symm.trans hx
  · exact permuted_inv h hp
  · exact baseStep_inv h hp
  · exact mergeStep_inv h hp
  · exact copiedBack_inv h hp
  · exact normalized_inv h hp

/-! ### Host events keep the invariant -/

/-- What only the host's own registers, the events and the counters hold is no part of the invariant; DONE may be
cleared. -/
theorem State.Inv.host_fields {s : State} (h : s.Inv) (ie d ovr acc : Bool) (lr li rd : Word) (n : Nat)
    (es : List HostEvent) (hd : d = true → s.done = true) :
    ({ s with
      ie := ie
      done := d
      ovr := ovr
      accerr := acc
      lenRe := lr
      lenIm := li
      rdata := rd
      draws := n
      host := es } : State).Inv := by
  obtain ⟨hbusy, hrun, hle⟩ := h.control
  refine ⟨h.params, h.rom, h.banks, ⟨hbusy, fun hb => ⟨?_, (hrun hb).2⟩, hle⟩, h.phase⟩
  exact Bool.eq_false_iff.mpr fun hdone => Bool.false_ne_true ((hrun hb).1.symm.trans (hd hdone))

/-- With BUSY = 0 the sequencer is idle (rule R23). -/
theorem State.Inv.idle_of_not_busy {s : State} (h : s.Inv) (hb : s.busy = false) : s.phase = .idle := by
  by_contra hp
  exact Bool.false_ne_true (hb.symm.trans (h.control.1.mpr hp))

theorem commandWrite_inv {s : State} (h : s.Inv) (v : Word) : (s.commandWrite v).Inv := by
  obtain hc | ⟨hb, ⟨d, hc⟩ | hc⟩ := commandWrite_cases v s <;> rw [hc]
  · exact h.host_fields _ _ _ _ _ _ _ _ _ id
  all_goals
    have hidle := h.idle_of_not_busy hb
    obtain ⟨hrole, hcursor⟩ := h.atIdle hidle
  · exact ⟨h.params, h.rom, h.banks, ⟨by simp, by simp, by simp⟩, hrole, rfl, rfl⟩
  · refine ⟨h.params, h.rom, h.banks, ⟨by simp [hb, hidle], by simp [hb], by simp⟩, ?_⟩
    simp [State.PhaseOk, hidle, hrole, hcursor]

theorem writeWords_inv {s : State} (h : s.Inv) (b : BankId) {i : Nat} (hi : i < s.cfg.nmax) (v : Word) :
    (s.writeWords b i [v]).Inv where
  params := by simpa using h.params
  rom := by simpa using h.rom
  banks := writeWords_banksOk h.banks hi
  control := by simpa [State.ControlOk] using h.control
  phase := by simpa [State.PhaseOk, State.CursorOk] using h.phase

theorem execRd_inv {a : Addr} {s t : State} (h : s.Inv) (hx : execRd a s = .next t) : t.Inv := by
  obtain ⟨acc, w, n, hr⟩ := execRd_frame a s
  cases hr.symm.trans hx
  exact h.host_fields _ _ _ _ _ _ _ _ _ id

theorem execWr_inv {a : Addr} {v : Word} {s t : State} (h : s.Inv) (hx : execWr a v s = .next t) : t.Inv := by
  obtain ⟨_, _, _, _, _, _, hd, hw⟩ | hw | ⟨b, i, hi, -, hw⟩ := execWr_cases a v s <;> cases hw.symm.trans hx
  · exact h.host_fields _ _ _ _ _ _ _ _ _ hd
  · exact commandWrite_inv h v
  · exact writeWords_inv h b hi v

theorem afterReset_inv {s : State} (h : s.Inv) : s.afterReset.Inv :=
  ⟨h.params, h.rom, afterReset_banksOk s, ⟨by simp [State.afterReset, State.resetOf], by
    simp [State.afterReset, State.resetOf], by simp [State.afterReset, State.resetOf]⟩, rfl, rfl⟩

/-- Settles O11, by the cases of a step: a micro-operation, an access, a reset and an idle turn keep the invariant. -/
theorem stepKeepsInv : Obligations.StepKeepsInv := by
  intro s t h hstep
  have hinv (es : List HostEvent) : ({ s with host := es } : State).Inv := h.host_fields _ _ _ _ _ _ _ _ _ id
  obtain ⟨rest, ⟨-, rfl⟩ | ⟨-, i, hd, hx⟩ | rfl | ⟨a, hx⟩ | ⟨a, v, hx⟩ | ⟨a, mask, value, u, hx, rfl⟩⟩ :=
    step_cases hstep
  · exact hinv rest
  · exact microOp_inv (hinv rest) hd hx
  · exact afterReset_inv (hinv rest)
  · exact execRd_inv (hinv rest) hx
  · exact execWr_inv (hinv rest) hx
  · obtain ⟨es, hes⟩ := afterPoll_frame a mask value u
    rw [hes]
    exact (execRd_inv (hinv rest) hx).host_fields _ _ _ _ _ _ _ _ _ id

end Sys2Proof.Machine
end

section
/-! SUPPORT. What a micro-operation writes, word by word and value by value, and that no word from N on is written. -/

namespace Sys2Proof.Machine

/-! ### Values and words after each micro-operation -/

theorem getD_map_range {α : Type} (f : Nat → α) {n i : Nat} (hi : i < n) (a : α) :
    ((List.range n).map f).getD i a = f i := by
  simp [List.getD_eq_getElem?_getD, hi]

/-- Words moved below N leave every word from N on as it was. -/
theorem moveWords_readWord_above (r : Role) (re im : Nat → Word) (s : State) (b : BankId) {i : Nat} (hi : s.nLat ≤ i) :
    (s.moveWords r re im).readWord b i = s.readWord b i := by
  have hout (c : BankId) (ws : List Word) (h : ws.length = s.nLat) (u : State) :
      (u.writeWords c 0 ws).readWord b i = u.readWord b i := by
    rw [writeWords_readWord, if_neg (by omega)]
  rw [State.moveWords, hout _ _ (by simp), hout _ _ (by simp)]

/-- Words moved to a pair are the values read there; every other value is as before (rules R153, R197). -/
theorem moveWords_readPair (r q : Role) (re im : Nat → Word) (s : State) (i : Nat) :
    (s.moveWords r re im).readPair q i =
      if q = r ∧ i < s.nLat then (Fl.ofWord (re i), Fl.ofWord (im i)) else s.readPair q i := by
  simp only [State.readPair, State.moveWords, writeWords_readWord, role_re_inj, role_im_inj, List.length_map,
    List.length_range, Nat.zero_le, true_and, Nat.zero_add, Nat.sub_zero, role_re_ne_im, (role_re_ne_im _ _).symm,
    false_and, if_false]
  split_ifs with h
  · rw [getD_map_range _ h.2, getD_map_range _ h.2]
  · rfl

/-- PERMUTE moves the values of X to S by the permutation (rule R153); every other value is as before. -/
theorem permuted_readPair (s : State) (q : Role) (i : Nat) :
    s.permuted.readPair q i =
      if q = .s ∧ i < s.nLat then s.readPair .x (permuteSource s.nLat i) else s.readPair q i :=
  moveWords_readPair .s q _ _ s i

/-- COPYBACK moves the values of S to X (rule R197); every other value is as before. -/
theorem copiedBack_readPair (s : State) (q : Role) (i : Nat) :
    s.copiedBack.readPair q i = if q = .x ∧ i < s.nLat then s.readPair .s i else s.readPair q i :=
  moveWords_readPair .x q _ _ s i

/-- A section's transform writes the 32 values of the section in S; every other value is as before (rules R171,
R172). -/
theorem afterSection_readPair (d : Dir) (j sec : Nat) (s : State) (q : Role) (i : Nat) :
    (s.afterSection d j sec).readPair q i =
      if q = .s ∧ 32 * sec ≤ i ∧ i < 32 * sec + 32 then
        baseOutput d (orderOf s.cfg.backend) s.rom (s.sectionValues sec) (i - 32 * sec)
      else s.readPair q i := by
  have hread : (s.afterSection d j sec).readPair q i = (s.transformSection d sec).readPair q i := rfl
  rw [hread, State.transformSection, writePairs_readPair]
  · simp only [List.length_map, List.length_range, Config.B]
    split_ifs with h
    · exact getD_map_range _ (by omega) _
    · rfl
  · intro p hp
    obtain ⟨k, -, rfl⟩ := List.mem_map.mp hp
    exact ⟨reduce_wf _ _, reduce_wf _ _⟩

theorem afterSection_readWord_above (d : Dir) (j : Nat) {sec : Nat} {s : State} (hsec : 32 * sec + 32 ≤ s.nLat)
    (b : BankId) {i : Nat} (hi : s.nLat ≤ i) : (s.afterSection d j sec).readWord b i = s.readWord b i := by
  have hread : (s.afterSection d j sec).readWord b i = (s.transformSection d sec).readWord b i := rfl
  rw [hread, State.transformSection, writePairs_readWord_other]
  simp only [List.length_map, List.length_range, Config.B]
  omega

theorem mergeValue_wf (d : Dir) (rom : Rom) (div : Nat) (src : Nat → Fl × Fl) (m : Nat) :
    (mergeValue d rom div src m).1.wf = true ∧ (mergeValue d rom div src m).2.wf = true := by
  unfold mergeValue
  simp only
  split_ifs
  · exact ⟨fadd_wf _ _, fadd_wf _ _⟩
  · exact ⟨fsub_wf _ _, fsub_wf _ _⟩

/-- A merge stage writes the other pair below N; every other value is as before (rules R191, R192). -/
theorem afterStage_readPair (d : Dir) (s : State) (q : Role) (i : Nat) :
    (s.afterStage d).readPair q i =
      if q = s.role.other ∧ i < s.nLat then mergeValue d s.rom s.div (s.readPair s.role) i else s.readPair q i := by
  have hread : (s.afterStage d).readPair q i = (s.writePairs s.role.other 0
    ((List.range s.nLat).map (mergeValue d s.rom s.div (s.readPair s.role)))).readPair q i := rfl
  rw [hread, writePairs_readPair]
  · simp only [List.length_map, List.length_range, Nat.zero_le, true_and, Nat.zero_add, Nat.sub_zero]
    split_ifs with h
    · exact getD_map_range _ h.2 _
    · rfl
  · intro p hp
    obtain ⟨k, -, rfl⟩ := List.mem_map.mp hp
    exact mergeValue_wf ..

theorem afterStage_readWord_above (d : Dir) (s : State) (b : BankId) {i : Nat} (hi : s.nLat ≤ i) :
    (s.afterStage d).readWord b i = s.readWord b i := by
  have hread : (s.afterStage d).readWord b i = (s.writePairs s.role.other 0
    ((List.range s.nLat).map (mergeValue d s.rom s.div (s.readPair s.role)))).readWord b i := rfl
  rw [hread, writePairs_readWord_other]
  simp only [List.length_map, List.length_range]
  omega

/-- NORMALIZE divides the values of X below N; every other value is as before (rule R220). -/
theorem normalized_readPair (s : State) (q : Role) (i : Nat) :
    s.normalized.readPair q i =
      if q = .x ∧ i < s.nLat then
        (fdiv (s.readPair .x i).1 (Fl.ofNat s.nLat), fdiv (s.readPair .x i).2 (Fl.ofNat s.nLat))
      else s.readPair q i := by
  have hread : s.normalized.readPair q i = (s.writePairs .x 0 s.normalizedPairs).readPair q i := rfl
  rw [hread, writePairs_readPair]
  · simp only [normalizedPairs_length, Nat.zero_le, true_and, Nat.zero_add, Nat.sub_zero]
    split_ifs with h
    · exact getD_map_range _ h.2 _
    · rfl
  · intro p hp
    obtain ⟨k, -, rfl⟩ := List.mem_map.mp hp
    exact ⟨fdiv_wf _ _, fdiv_wf _ _⟩

theorem normalized_readWord_above (s : State) (b : BankId) {i : Nat} (hi : s.nLat ≤ i) :
    s.normalized.readWord b i = s.readWord b i := by
  rw [State.normalized, complete_readWord, writePairs_readWord_other]
  rw [normalizedPairs_length]
  omega

/-! ### No word from N on is written -/

theorem baseStep_readWord_above {d : Dir} {s : State} (hb : s.InBase d) (b : BankId) {m : Nat} (hm : s.nLat ≤ m) :
    (s.baseStep d).readWord b m = s.readWord b m := by
  obtain ⟨j, hj, hstep⟩ := baseStep_cases d hb.nonempty
  have hkeep := afterSection_readWord_above d j (hb.section_le (List.getElem_mem hj)) b hm
  rw [hstep]
  split_ifs
  · rw [tail_readWord, hkeep]
  · exact hkeep

theorem mergeStep_readWord_above (d : Dir) (s : State) (b : BankId) {m : Nat} (hm : s.nLat ≤ m) :
    (s.mergeStep d).readWord b m = s.readWord b m := by
  rw [mergeStep_eq]
  split_ifs
  · exact afterStage_readWord_above d s b hm
  · rw [tail_readWord, afterStage_readWord_above d s b hm]

/-- A micro-operation changes no word at or above N. -/
theorem microOp_readWord_above {i : Instr} {s t : State} (h : s.Inv) (hd : decode (.phase s.phase.code) = .ok i)
    (hx : exec i s = .next t) (b : BankId) {m : Nat} (hm : s.nLat ≤ m) : t.readWord b m = s.readWord b m := by
  obtain ⟨-, hi⟩ | ⟨-, hi⟩ | ⟨d, hp, hi⟩ | ⟨d, -, hi⟩ | ⟨-, hi⟩ | ⟨-, hi⟩ := microOp_cases hd
  · obtain ⟨e, he⟩ | ⟨-, he⟩ := execValidate_cases s <;> cases he.symm.trans ((hi s).symm.trans hx)
    · exact raiseError_readWord e s b m
    · rfl
  all_goals cases (hi s).symm.trans hx
  · exact moveWords_readWord_above _ _ _ s b hm
  · exact baseStep_readWord_above (h.inBase hp) b hm
  · exact mergeStep_readWord_above d s b hm
  · rw [normalizeOrComplete_readWord]
    exact moveWords_readWord_above _ _ _ s b hm
  · exact normalized_readWord_above s b hm

/-- Settles O59: the step is the sequencer's turn, and no micro-operation writes at or above N. -/
theorem wordsAboveLengthKept : Obligations.WordsAboveLengthKept := by
  intro s t h hhost hstep b m hm
  obtain ⟨rest, ⟨-, rfl⟩ | ⟨-, i, hd, hx⟩⟩ := turn_cases hhost hstep
  · rfl
  · have hinv : ({ s with host := rest } : State).Inv := h.host_fields _ _ _ _ _ _ _ _ _ id
    exact microOp_readWord_above hinv hd hx b hm

end Sys2Proof.Machine
end

section
/-! SUPPORT. Two commands in lockstep: with equal input values, length, direction and backend, the sequencer goes
through the same phases and the values it computes stay equal, whatever the scratch contents, the order of the
sections and the other parameters (rule R248). -/

namespace Sys2Proof.Machine

/-! ### Indices that stay below N -/

theorem bitrev_lt (l n : Nat) : bitrev l n < 2 ^ l := by
  induction l generalizing n with
  | zero => simp [bitrev]
  | succ l ih =>
    have hbit : n % 2 ≤ 1 := by omega
    calc bitrev (l + 1) n = n % 2 * 2 ^ l + bitrev l (n / 2) := by rw [bitrev, Nat.shiftLeft_eq]
      _ < 1 * 2 ^ l + 2 ^ l := Nat.add_lt_add_of_le_of_lt (Nat.mul_le_mul_right _ hbit) (ih _)
      _ = 2 ^ (l + 1) := by ring

/-- PERMUTE reads words below N only (rule R153). -/
theorem permuteSource_lt {p : Params} {n : Nat} (h : LegalLength p n) (i : Nat) : permuteSource n i < n := by
  have hn := h.eq_sections_mul
  have hrev : bitrev (sections n).log2 (i / Config.B) < sections n := by
    obtain ⟨k, hk, -, rfl⟩ := h
    rw [sections_two_pow hk, Nat.log2_two_pow]
    exact bitrev_lt _ _
  have hslot : i % Config.B ≤ 31 := Nat.le_of_lt_succ (Nat.mod_lt _ (by decide))
  have hmul := Nat.mul_le_mul_left (sections n) hslot
  unfold permuteSource
  omega

/-- A merge stage below M pairs up all words below N (rules R37, R190). -/
theorem State.InMerge.two_div_dvd {d : Dir} {s : State} (h : s.InMerge d) : 2 * s.div ∣ s.nLat := by
  obtain ⟨k, -, -, hk⟩ := h.length
  have hstage := h.stage
  rw [hk, mergeStages_two_pow] at hstage
  have hdiv : 2 * s.div = 2 ^ (s.stage.toNat + 6) := by
    rw [State.div, Config.B, Nat.shiftLeft_eq]; ring
  rw [hk, hdiv]
  exact pow_dvd_pow 2 (by omega)

theorem State.div_pos (s : State) : 0 < s.div := by
  rw [State.div, Config.B, Nat.shiftLeft_eq]
  exact Nat.mul_pos (by decide) (Nat.two_pow_pos _)

/-- A butterfly below N reads values below N only (rules R190 to R192). -/
theorem mergeValue_congr (d : Dir) (rom : Rom) {div n : Nat} {src src' : Nat → Fl × Fl} (hpos : 0 < div)
    (hdvd : 2 * div ∣ n) (h : ∀ i, i < n → src' i = src i) {m : Nat} (hm : m < n) :
    mergeValue d rom div src' m = mergeValue d rom div src m := by
  obtain ⟨c, rfl⟩ := hdvd
  have hstart : m / (2 * div) * (2 * div) + 2 * div ≤ 2 * div * c := by
    have hc : m / (2 * div) < c := Nat.div_lt_of_lt_mul hm
    calc m / (2 * div) * (2 * div) + 2 * div = (m / (2 * div) + 1) * (2 * div) := by ring
      _ ≤ c * (2 * div) := Nat.mul_le_mul_right _ hc
      _ = 2 * div * c := Nat.mul_comm _ _
  have hk : m % div < div := Nat.mod_lt _ hpos
  unfold mergeValue
  simp only
  rw [h (m / (2 * div) * (2 * div) + div + m % div) (by omega), h (m / (2 * div) * (2 * div) + m % div) (by omega)]

/-! ### The base stage in any order of the sections -/

/-- The value at index i of the transformed sections of `src` (rules R170 to R172). -/
def baseValue (d : Dir) (o : Order) (src : Nat → Fl × Fl) (i : Nat) : Fl × Fl :=
  baseOutput d o romContents ((List.range Config.B).map fun n => src (Config.B * (i / Config.B) + n)) (i % Config.B)

/-- The sections that have left the cursor are transformed, those in it still hold the values `src`. -/
def State.Transformed (src : Nat → Fl × Fl) (s : State) : Prop :=
  ∀ i, i < s.nLat → s.readPair .s i =
    if i / Config.B ∈ s.cursor then src i else baseValue s.dir (orderOf s.cfg.backend) src i

theorem mem_eraseIdx_iff_of_nodup {l : List Nat} (hl : l.Nodup) {j : Nat} (hj : j < l.length) (a : Nat) :
    a ∈ l.eraseIdx j ↔ a ≠ l[j] ∧ a ∈ l := by
  rw [← hl.erase_getElem, hl.mem_erase_iff]

/-- A section of the cursor is untouched, so its transform is that of the values `src`. -/
theorem sectionValues_of_transformed {src : Nat → Fl × Fl} {d : Dir} {s : State} (hb : s.InBase d)
    (ht : s.Transformed src) {sec : Nat} (hsec : sec ∈ s.cursor) :
    s.sectionValues sec = (List.range Config.B).map fun n => src (Config.B * sec + n) := by
  refine List.map_congr_left fun n hn => ?_
  have hn : n < 32 := List.mem_range.mp hn
  have hle := hb.section_le hsec
  have hdiv : (32 * sec + n) / 32 = sec := by omega
  simp only [Config.B]
  rw [ht _ (by omega), Config.B, hdiv, if_pos hsec]

/-- Taking any section of the cursor keeps the state of the base stage. -/
theorem afterSection_transformed {src : Nat → Fl × Fl} {d : Dir} {s : State} (hb : s.InBase d)
    (hrom : s.rom = romContents) (ht : s.Transformed src) {j : Nat} (hj : j < s.cursor.length) :
    (s.afterSection d j s.cursor[j]).Transformed src := by
  intro i hi
  rw [afterSection_nLat] at hi
  have hnodup : s.cursor.Nodup := hb.cursor.1.imp Nat.ne_of_lt
  have hmem := mem_eraseIdx_iff_of_nodup hnodup hj (i / Config.B)
  rw [afterSection_readPair, afterSection_cursor, afterSection_dir, afterSection_cfg]
  by_cases hsec : i / Config.B = s.cursor[j]
  · have hrange : 32 * s.cursor[j] ≤ i ∧ i < 32 * s.cursor[j] + 32 := by
      rw [← hsec, Config.B]; omega
    have hslot : i - 32 * s.cursor[j] = i % Config.B := by rw [← hsec, Config.B]; omega
    rw [if_pos ⟨rfl, hrange⟩, if_neg fun hin => (hmem.mp hin).1 hsec, hslot, hrom,
      sectionValues_of_transformed hb ht (List.getElem_mem hj), ← hsec, hb.dir]
    rfl
  · have hout : ¬ (32 * s.cursor[j] ≤ i ∧ i < 32 * s.cursor[j] + 32) := by
      rw [Config.B] at hsec; omega
    rw [if_neg (by simp [hout]), ht i hi]
    simp only [hmem, ne_eq, hsec, not_false_eq_true, true_and]

theorem permuted_nLat (s : State) : s.permuted.nLat = s.nLat := moveWords_nLat ..

/-- PERMUTE begins the base stage: every section is still to be transformed. -/
theorem permuted_transformed {s : State} (hlen : LegalLength s.cfg s.nLat) :
    s.permuted.Transformed fun i => s.readPair .x (permuteSource s.nLat i) := by
  intro i hi
  rw [permuted_nLat] at hi
  have hsec : i / Config.B ∈ s.permuted.cursor := by
    have hn := hlen.eq_sections_mul
    have hlt : i / 32 < sections s.nLat := by omega
    exact List.mem_range.mpr hlt
  rw [permuted_readPair, if_pos ⟨rfl, hi⟩, if_pos hsec]

/-! ### The relation -/

/-- The values of a bank pair below n are equal. -/
def PairsAgree (n : Nat) (s s' : State) (q : Role) : Prop := ∀ i, i < n → s'.readPair q i = s.readPair q i

/-- Which values two commands share at a phase: the input before PERMUTE; during the base stage the input and what the
sections were permuted to; afterwards everything below n. -/
def DataAgree (n : Nat) (s s' : State) : Phase → Prop
  | .validate => False
  | .permute => PairsAgree n s s' .x
  | .baseFwd | .baseInv => PairsAgree n s s' .x ∧ ∃ src, s.Transformed src ∧ s'.Transformed src
  | .mergeFwd | .mergeInv | .copyback | .normalize | .idle => ∀ q, PairsAgree n s s' q

/-- The control state two commands of length n share: all of it but which sections are left, of which there are
equally many. -/
structure SameControl (n : Nat) (s s' : State) : Prop where
  backend : s'.cfg.backend = s.cfg.backend
  dir     : s'.dir = s.dir
  nLat    : s.nLat = n
  nLat'   : s'.nLat = n
  phase   : s'.phase = s.phase
  stage   : s'.stage = s.stage
  role    : s'.role = s.role
  cursor  : s'.cursor.length = s.cursor.length
  host    : s.host = []
  host'   : s'.host = []

/-- Two commands of length n in lockstep. -/
structure Lockstep (n : Nat) (s s' : State) : Prop where
  control : SameControl n s s'
  data    : DataAgree n s s' s.phase

theorem DataAgree.input {n : Nat} {s s' : State} {p : Phase} (h : DataAgree n s s' p) : PairsAgree n s s' .x := by
  cases p with
  | validate => exact h.elim
  | permute => exact h
  | baseFwd | baseInv => exact h.1
  | mergeFwd | mergeInv | copyback | normalize | idle => exact h .x

theorem DataAgree.base {n : Nat} {s s' : State} {d : Dir} (h : DataAgree n s s' (basePhase d)) :
    PairsAgree n s s' .x ∧ ∃ src, s.Transformed src ∧ s'.Transformed src := by
  cases d <;> exact h

theorem DataAgree.of_base {n : Nat} {s s' : State} {d : Dir} {src : Nat → Fl × Fl} (hx : PairsAgree n s s' .x)
    (ht : s.Transformed src) (ht' : s'.Transformed src) : DataAgree n s s' (basePhase d) := by
  cases d <;> exact ⟨hx, src, ht, ht'⟩

theorem DataAgree.merge {n : Nat} {s s' : State} {d : Dir} (h : DataAgree n s s' (mergePhase d)) :
    ∀ q, PairsAgree n s s' q := by
  cases d <;> exact h

theorem DataAgree.of_merge {n : Nat} {s s' : State} {d : Dir} (h : ∀ q, PairsAgree n s s' q) :
    DataAgree n s s' (mergePhase d) := by
  cases d <;> exact h

/-! ### Tail and completion in lockstep -/

theorem normalizeOrComplete_phase (s : State) :
    s.normalizeOrComplete.phase = if s.dir = .inv then .normalize else .idle := by
  unfold State.normalizeOrComplete
  cases s.dir <;> rfl

theorem normalizeOrComplete_lockstep {n : Nat} {s s' : State} (hc : SameControl n s s')
    (hall : ∀ q, PairsAgree n s s' q) : Lockstep n s.normalizeOrComplete s'.normalizeOrComplete where
  control := by
    obtain ⟨hb, hd, hn, hn', -, hs, hr, hcur, hh, hh'⟩ := hc
    constructor <;> simp [*, normalizeOrComplete_phase]
  data := by
    have hall' : ∀ q, PairsAgree n s.normalizeOrComplete s'.normalizeOrComplete q := fun q i hi => by
      simpa [State.readPair] using hall q i hi
    rw [normalizeOrComplete_phase]
    split_ifs <;> exact hall'

theorem tail_phase (s : State) :
    s.tail.phase = if s.stage.toNat < mergeStages s.nLat then mergePhase s.dir
      else if s.role = .s then .copyback else s.normalizeOrComplete.phase := by
  unfold State.tail
  by_cases h : s.stage.toNat < mergeStages s.nLat
  · rw [if_pos h, if_pos h]
  · rw [if_neg h, if_neg h]
    cases s.role <;> rfl

theorem tail_lockstep {n : Nat} {s s' : State} (hc : SameControl n s s') (hall : ∀ q, PairsAgree n s s' q) :
    Lockstep n s.tail s'.tail where
  control := by
    obtain ⟨hb, hd, hn, hn', -, hs, hr, hcur, hh, hh'⟩ := hc
    constructor <;> simp [*, tail_phase, normalizeOrComplete_phase]
  data := by
    have hall' : ∀ q, PairsAgree n s.tail s'.tail q := fun q i hi => by
      simpa [State.readPair] using hall q i hi
    rw [tail_phase, normalizeOrComplete_phase]
    split_ifs
    · exact .of_merge hall'
    all_goals exact hall'

/-! ### The micro-operations in lockstep -/

/-- PERMUTE leaves the input in X. -/
theorem permuted_readPair_x (s : State) (i : Nat) : s.permuted.readPair .x i = s.readPair .x i := by
  rw [permuted_readPair, if_neg (by simp)]

theorem permuted_lockstep {n : Nat} {s s' : State} (h : Lockstep n s s') (hlen : LegalLength s.cfg s.nLat)
    (hlen' : LegalLength s'.cfg s'.nLat) : Lockstep n s.permuted s'.permuted := by
  obtain ⟨⟨hb, hd, hn, hn', -, hs, hr, hcur, hh, hh'⟩, hdata⟩ := h
  have hinput : PairsAgree n s.permuted s'.permuted .x := fun i hi => by
    rw [permuted_readPair_x, permuted_readPair_x, hdata.input i hi]
  have hsame : (fun i => s'.readPair .x (permuteSource s'.nLat i)) =
      fun i => s.readPair .x (permuteSource s.nLat i) := by
    funext i
    rw [hn', ← hn, hdata.input _ (hn ▸ permuteSource_lt hlen i)]
  have ht' := permuted_transformed hlen'
  rw [hsame] at ht'
  refine ⟨?_, .of_base (d := s.dir) hinput (permuted_transformed hlen) ht'⟩
  constructor <;> simp [State.permuted, *]

theorem afterSection_readPair_x (d : Dir) (j sec : Nat) (s : State) (i : Nat) :
    (s.afterSection d j sec).readPair .x i = s.readPair .x i := by
  rw [afterSection_readPair, if_neg (by simp)]

theorem baseStep_lockstep {n : Nat} {d : Dir} {s s' : State} (h : Lockstep n s s') (hi : s.Inv) (hi' : s'.Inv)
    (hp : s.phase = basePhase d) : Lockstep n (s.baseStep d) (s'.baseStep d) := by
  obtain ⟨hc, hdata⟩ := h
  obtain ⟨hb, hd, hn, hn', hph, hs, hr, hcur, hh, hh'⟩ := hc
  have hbase : s.InBase d := hi.inBase hp
  have hbase' : s'.InBase d := hi'.inBase (hph.trans hp)
  rw [hp] at hdata
  obtain ⟨hinput, src, ht, ht'⟩ := hdata.base
  obtain ⟨j, hj, hstep⟩ := baseStep_cases d hbase.nonempty
  obtain ⟨j', hj', hstep'⟩ := baseStep_cases d hbase'.nonempty
  have hu := afterSection_transformed hbase hi.rom ht hj
  have hu' := afterSection_transformed hbase' hi'.rom ht' hj'
  have hcontrol : SameControl n (s.afterSection d j s.cursor[j]) (s'.afterSection d j' s'.cursor[j']) := by
    constructor <;>
      simp [*, List.length_eraseIdx_of_lt hj, List.length_eraseIdx_of_lt hj']
  have hx : PairsAgree n (s.afterSection d j s.cursor[j]) (s'.afterSection d j' s'.cursor[j']) .x := fun i hi => by
    rw [afterSection_readPair_x, afterSection_readPair_x, hinput i hi]
  have hlast : s.cursor.eraseIdx j = [] ↔ s'.cursor.eraseIdx j' = [] := by
    rw [← List.length_eq_zero_iff, ← List.length_eq_zero_iff, List.length_eraseIdx_of_lt hj,
      List.length_eraseIdx_of_lt hj', hcur]
  rw [hstep, hstep']
  by_cases hl : s.cursor.eraseIdx j = []
  · rw [if_pos hl, if_pos (hlast.mp hl)]
    refine tail_lockstep hcontrol fun q => ?_
    cases q with
    | x => exact hx
    | s =>
      intro i hi
      rw [hu i (by rwa [hcontrol.nLat]), hu' i (by rwa [hcontrol.nLat']), hcontrol.dir, hcontrol.backend]
      simp only [afterSection_cursor, hl, hlast.mp hl, List.not_mem_nil, if_false]
  · rw [if_neg hl, if_neg (hlast.not.mp hl)]
    refine ⟨hcontrol, ?_⟩
    rw [afterSection_phase, hp]
    exact .of_base hx hu hu'

theorem mergeStep_lockstep {n : Nat} {d : Dir} {s s' : State} (h : Lockstep n s s') (hi : s.Inv) (hi' : s'.Inv)
    (hp : s.phase = mergePhase d) : Lockstep n (s.mergeStep d) (s'.mergeStep d) := by
  obtain ⟨hc, hdata⟩ := h
  obtain ⟨hb, hd, hn, hn', hph, hs, hr, hcur, hh, hh'⟩ := hc
  rw [hp] at hdata
  have hdiv : s'.div = s.div := by rw [State.div, State.div, hs]
  have hcontrol : SameControl n (s.afterStage d) (s'.afterStage d) := by
    constructor <;> simp [*]
  have hall : ∀ q, PairsAgree n (s.afterStage d) (s'.afterStage d) q := by
    intro q i hlt
    have hdvd : 2 * s.div ∣ n := hn ▸ (hi.inMerge hp).two_div_dvd
    have hvalue := mergeValue_congr d s.rom s.div_pos hdvd (hdata.merge s.role) hlt
    rw [afterStage_readPair, afterStage_readPair, hr, hn, hn', hi'.rom, ← hi.rom, hdiv, hvalue, hdata.merge q i hlt]
  rw [mergeStep_eq, mergeStep_eq, hcontrol.stage, hcontrol.nLat', hcontrol.nLat]
  split_ifs
  · refine ⟨hcontrol, ?_⟩
    rw [afterStage_phase, hp]
    exact .of_merge hall
  · exact tail_lockstep hcontrol hall

theorem copiedBack_lockstep {n : Nat} {s s' : State} (h : Lockstep n s s') (hp : s.phase = .copyback) :
    Lockstep n s.copiedBack.normalizeOrComplete s'.copiedBack.normalizeOrComplete := by
  obtain ⟨⟨hb, hd, hn, hn', hph, hs, hr, hcur, hh, hh'⟩, hdata⟩ := h
  rw [hp] at hdata
  refine normalizeOrComplete_lockstep ?_ fun q i hi => ?_
  · constructor <;> simp [State.copiedBack, *]
  · rw [copiedBack_readPair, copiedBack_readPair, hn, hn', hdata .s i hi, hdata q i hi]

theorem normalized_lockstep {n : Nat} {s s' : State} (h : Lockstep n s s') (hp : s.phase = .normalize) :
    Lockstep n s.normalized s'.normalized := by
  obtain ⟨⟨hb, hd, hn, hn', hph, hs, hr, hcur, hh, hh'⟩, hdata⟩ := h
  rw [hp] at hdata
  refine ⟨?_, fun q i hi => ?_⟩
  · constructor <;> simp [State.normalized, *]
  · rw [normalized_readPair, normalized_readPair, hn, hn', hdata .x i hi, hdata q i hi]

/-! ### Steps and runs in lockstep -/

/-- A micro-operation keeps two commands in lockstep. -/
theorem microOp_lockstep {n : Nat} {i : Instr} {s s' t t' : State} (h : Lockstep n s s') (hinv : s.Inv)
    (hinv' : s'.Inv) (hd : decode (.phase s.phase.code) = .ok i) (hx : exec i s = .next t)
    (hx' : exec i s' = .next t') : Lockstep n t t' := by
  obtain ⟨hp, hi⟩ | ⟨hp, hi⟩ | ⟨d, hp, hi⟩ | ⟨d, hp, hi⟩ | ⟨hp, hi⟩ | ⟨hp, hi⟩ := microOp_cases hd
  · have hdata := h.data
    rw [hp] at hdata
    exact hdata.elim
  all_goals
    cases (hi s).symm.trans hx
    cases (hi s').symm.trans hx'
  · obtain ⟨-, -, -, hlen⟩ := hinv.atPermute hp
    obtain ⟨-, -, -, hlen'⟩ := hinv'.atPermute (h.control.phase.trans hp)
    exact permuted_lockstep h hlen hlen'
  · exact baseStep_lockstep h hinv hinv' hp
  · exact mergeStep_lockstep h hinv hinv' hp
  · exact copiedBack_lockstep h hp
  · exact normalized_lockstep h hp

/-- With no event pending, a step keeps two commands in lockstep: both run the same micro-operation, or both are
idle. -/
theorem step_lockstep {n : Nat} {s s' t t' : State} (h : Lockstep n s s') (hi : s.Inv) (hi' : s'.Inv)
    (hx : step s = .next t) (hx' : step s' = .next t') : Lockstep n t t' := by
  have hphase := h.control.phase
  have hbusy : s'.busy = s.busy := by
    rw [Bool.eq_iff_iff, hi'.control.1, hi.control.1, hphase]
  have hturn := step_cases_of_fetch_turn (by rw [fetch, h.control.host]) hx
  have hturn' := step_cases_of_fetch_turn (by rw [fetch, h.control.host']) hx'
  rw [hbusy, hphase] at hturn'
  rcases hturn with ⟨hb, rfl⟩ | ⟨hb, i, hd, hx⟩
  · rcases hturn' with ⟨-, rfl⟩ | ⟨hb', -⟩
    · exact h
    · exact absurd (hb.symm.trans hb') Bool.false_ne_true
  · rcases hturn' with ⟨hb', -⟩ | ⟨-, i', hd', hx'⟩
    · exact absurd (hb'.symm.trans hb) Bool.false_ne_true
    · cases hd.symm.trans hd'
      exact microOp_lockstep h hi hi' hd hx hx'

theorem run_succ_eq_next {M : Host.Core} {k : Nat} {s t : M.State} (h : M.run (k + 1) s = .next t) :
    ∃ u, M.step s = .next u ∧ M.run k u = .next t := by
  rw [Host.Core.run] at h
  cases hs : M.step s with
  | next u => exact ⟨u, rfl, by rwa [hs] at h⟩
  | fault r => rw [hs] at h; cases h
  | refused r => rw [hs] at h; cases h

/-- A run of any length keeps two commands in lockstep. -/
theorem run_lockstep {n : Nat} (k : Nat) {s s' t t' : State} (h : Lockstep n s s') (hi : s.Inv) (hi' : s'.Inv)
    (hx : Host.Core.run core k s = .next t) (hx' : Host.Core.run core k s' = .next t') : Lockstep n t t' := by
  induction k generalizing s s' with
  | zero => cases hx; cases hx'; exact h
  | succ k ih =>
    obtain ⟨u, hu, hx⟩ := run_succ_eq_next hx
    obtain ⟨u', hu', hx'⟩ := run_succ_eq_next hx'
    exact ih (step_lockstep h hi hi' hu hu') (stepKeepsInv _ _ hi hu) (stepKeepsInv _ _ hi' hu') hx hx'

/-- Two commands at PERMUTE with equal input, length, direction and backend are in lockstep. -/
theorem lockstep_of_permute {n : Nat} {s s' : State} (hi : s.Inv) (hi' : s'.Inv) (hp : s.phase = .permute)
    (hp' : s'.phase = .permute) (hh : s.host = []) (hh' : s'.host = []) (hb : s'.cfg.backend = s.cfg.backend)
    (hd : s'.dir = s.dir) (hn : s.nLat = n) (hn' : s'.nLat = n) (hx : PairsAgree n s s' .x) : Lockstep n s s' := by
  obtain ⟨hr, hc, hs, -⟩ := hi.atPermute hp
  obtain ⟨hr', hc', hs', -⟩ := hi'.atPermute hp'
  refine ⟨⟨hb, hd, hn, hn', hp'.trans hp.symm, hs'.trans hs.symm, hr'.trans hr.symm, by rw [hc, hc'], hh, hh'⟩, ?_⟩
  rw [hp]
  exact hx

/-- Settles O60: two such commands stay in lockstep, and commands in lockstep agree on the values of X below N. -/
theorem resultIgnoresScratchAndSchedule : Obligations.ResultIgnoresScratchAndSchedule := by
  intro s s' t t' k hi hi' hp hp' hh hh' hb hd hn hn' hx hrun hrun'
  have hstart : Lockstep (2 ^ k) s s' := lockstep_of_permute hi hi' hp hp' hh hh' hb hd hn hn' hx
  exact (run_lockstep _ hstart hi hi' hrun hrun').data.input

end Sys2Proof.Machine
end

section
/-! SUPPORT. The host address space: the map from addresses to registers and window words, what an access does at the
target its address selects, busy or not, and the byte lanes of a word. -/

namespace Sys2Proof.Machine

/-! ### The address map -/

/-- The two data windows of the address space: base address, bank, and what an index selects (rules R53, R54). -/
inductive Window : Nat → BankId → (Nat → Target) → Prop where
  | re : Window 0x400000 .xr .re
  | im : Window 0x800000 .xi .im

/-- A register offset is one of the six multiples of 4 below 0x18 (rules R51, R52). -/
theorem registerAt_eq_none_iff {n : Nat} (hn : n % 4 = 0) : registerAt n = none ↔ 0x18 ≤ n := by
  unfold registerAt
  split
  case h_7 => simp only [imp_false, true_iff] at *; omega
  all_goals simp

/-- Everything an address can select: nothing, as a misaligned or a reserved one; a register; a window word when its
index is below NMAX (rules R51 to R54, R57, R58). -/
theorem select_cases (p : Params) (a : Addr) :
    (a.toNat % 4 ≠ 0 ∧ select p a = none) ∨
    (a.toNat % 4 = 0 ∧ a.toNat < 0x400000 ∧ select p a = registerAt a.toNat) ∨
    (∃ base b target i, Window base b target ∧ a.toNat = base + 4 * i ∧ i < 2 ^ 20 ∧
      select p a = if i < p.nmax then some (target i) else none) ∨
    (0xC00000 ≤ a.toNat ∧ select p a = none) := by
  by_cases hal : a.toNat % 4 = 0
  · have haligned : isAligned a ≠ false := by simp [isAligned, hal]
    rcases Nat.lt_or_ge a.toNat 0x400000 with hreg | hre
    · exact .inr (.inl ⟨hal, hreg, by simp only [select, if_neg haligned, if_pos hreg]⟩)
    · rcases Nat.lt_or_ge a.toNat 0x800000 with hlt | him
      · exact .inr (.inr (.inl ⟨_, _, _, (a.toNat - 0x400000) / 4, .re, by omega, by omega, by
          simp only [select, if_neg haligned, if_neg hre.not_gt, if_pos hlt]⟩))
      · rcases Nat.lt_or_ge a.toNat 0xC00000 with hlt | hhigh
        · exact .inr (.inr (.inl ⟨_, _, _, (a.toNat - 0x800000) / 4, .im, by omega, by omega, by
            simp only [select, if_neg haligned, if_neg hre.not_gt, if_neg him.not_gt, if_pos hlt]⟩))
        · exact .inr (.inr (.inr ⟨hhigh, by
            simp only [select, if_neg haligned, if_neg hre.not_gt, if_neg him.not_gt, if_neg hhigh.not_gt]⟩))
  · exact .inl ⟨hal, by simp [select, isAligned, hal]⟩

/-- An aligned address below the windows selects by its register offset (rule R52). -/
theorem select_eq_registerAt {p : Params} {a : Addr} (hal : a.toNat % 4 = 0) (hlt : a.toNat < 0x400000) :
    select p a = registerAt a.toNat := by
  obtain ⟨h, -⟩ | ⟨-, -, hs⟩ | ⟨_, _, _, i, hw, ha, -⟩ | ⟨h, -⟩ := select_cases p a
  · exact absurd hal h
  · exact hs
  · cases hw <;> omega
  · omega

/-- The window word an address selects (rules R53, R54). -/
theorem Window.select_eq_some_iff {base : Nat} {b : BankId} {target : Nat → Target} (hw : Window base b target)
    (p : Params) (a : Addr) (i : Nat) :
    select p a = some (target i) ↔ a.toNat = base + 4 * i ∧ i < 2 ^ 20 ∧ i < p.nmax := by
  obtain ⟨h, hs⟩ | ⟨-, h, hs⟩ | ⟨base', b', target', j, hw', ha, hj, hs⟩ | ⟨h, hs⟩ := select_cases p a <;> rw [hs]
  · cases hw <;> simp <;> omega
  · cases hw <;> simp [registerAt_ne_re, registerAt_ne_im] <;> omega
  · -- the windows do not overlap: in the other one no index gives the address
    cases hw <;> cases hw' <;> split_ifs <;> simp <;> omega
  · cases hw <;> simp <;> omega

/-- The addresses that are refused: misaligned ones, reserved ones, and those of a window index at or above NMAX
(rules R57, R58). -/
def RefusedAddr (p : Params) (a : Addr) : Prop :=
  a.toNat % 4 ≠ 0 ∨ (0x18 ≤ a.toNat ∧ a.toNat < 0x400000) ∨ 0xC00000 ≤ a.toNat ∨
    (0x400000 ≤ a.toNat ∧ a.toNat < 0x800000 ∧ 2 ^ p.log2Nmax ≤ (a.toNat - 0x400000) / 4) ∨
    (0x800000 ≤ a.toNat ∧ a.toNat < 0xC00000 ∧ 2 ^ p.log2Nmax ≤ (a.toNat - 0x800000) / 4)

/-- Exactly the refused addresses select nothing. -/
theorem select_eq_none_iff (p : Params) (a : Addr) : select p a = none ↔ RefusedAddr p a := by
  unfold RefusedAddr
  obtain ⟨h, hs⟩ | ⟨hal, h, hs⟩ | ⟨_, _, _, i, hw, ha, hi, hs⟩ | ⟨h, hs⟩ := select_cases p a <;> rw [hs]
  · simp [h]
  · rw [registerAt_eq_none_iff hal]; omega
  · rw [Params.nmax]
    cases hw <;> split_ifs <;> simp <;> omega
  · simp [h]

/-- Settles O36: a register address by its offset, a window word by its index, and nothing else is selected. -/
theorem addressMapIsTotal : Obligations.AddressMapIsTotal := by
  intro p a
  have hreg {n : Nat} (hal : n % 4 = 0) (hlt : n < 0x400000) (h : a.toNat = n) : select p a = registerAt n := by
    subst h; exact select_eq_registerAt hal hlt
  exact ⟨hreg (by decide) (by decide), hreg (by decide) (by decide), hreg (by decide) (by decide),
    hreg (by decide) (by decide), hreg (by decide) (by decide), hreg (by decide) (by decide),
    Window.re.select_eq_some_iff p a, Window.im.select_eq_some_iff p a, select_eq_none_iff p a⟩

/-! ### Accesses at a target -/

theorem execRd_of_select_eq_none {a : Addr} {s : State} (h : select s.cfg a = none) :
    execRd a s = .next { s with accerr := true, rdata := 0 } := by
  rw [execRd, h]; rfl

theorem execWr_of_select_eq_none {a : Addr} {s : State} (h : select s.cfg a = none) (v : Word) :
    execWr a v s = .next s.refuseAccess := by
  rw [execWr, h]

/-- Settles O37: a refused address selects nothing. -/
theorem refusedAccessSetsAccerr : Obligations.RefusedAccessSetsAccerr := by
  intro s a h
  have hsel : select s.cfg a = none := (select_eq_none_iff s.cfg a).mpr h
  exact ⟨execRd_of_select_eq_none hsel, execWr_of_select_eq_none hsel⟩

/-- The write to CMD (rule R56). -/
theorem execWr_cmd (v : Word) (s : State) : execWr cmdAddr v s = .next (s.commandWrite v) := rfl

/-- Settles O19: both are the word written to CMD. -/
theorem cmdWriteIsDecodedCommand : Obligations.CmdWriteIsDecodedCommand :=
  fun s v => (execWr_cmd v s).trans (exec_decodeCmd v s).symm

section
variable {base : Nat} {b : BankId} {target : Nat → Target} (hw : Window base b target)
include hw

/-- The address of a window word below NMAX selects it. -/
theorem Window.select_ofNat {p : Params} {i : Nat} (hi : i < 2 ^ 20) (hn : i < 2 ^ p.log2Nmax) :
    select p (BitVec.ofNat 24 (base + 4 * i)) = some (target i) := by
  refine (hw.select_eq_some_iff p _ i).mpr ⟨?_, hi, hn⟩
  rw [BitVec.toNat_ofNat]
  cases hw <;> omega

theorem Window.execRd_eq {s : State} {i : Nat} (hi : i < 2 ^ 20) (hn : i < 2 ^ s.cfg.log2Nmax) :
    execRd (BitVec.ofNat 24 (base + 4 * i)) s = .next (s.readWindow b i) := by
  rw [execRd, hw.select_ofNat hi hn]
  cases hw <;> rfl

theorem Window.execWr_eq {s : State} {i : Nat} (hi : i < 2 ^ 20) (hn : i < 2 ^ s.cfg.log2Nmax) (v : Word) :
    execWr (BitVec.ofNat 24 (base + 4 * i)) v s = .next (if s.busy then s.refuseAccess else s.writeWords b i [v]) := by
  rw [execWr, hw.select_ofNat hi hn]
  cases hw <;> rfl

end

theorem readWindow_of_not_busy {s : State} (hb : s.busy = false) (b : BankId) (i : Nat) :
    s.readWindow b i = { s with rdata := s.readWord b i } := by
  rw [State.readWindow, if_neg (by simp [hb])]

theorem readWindow_of_busy {s : State} (hb : s.busy = true) (b : BankId) (i : Nat) :
    s.readWindow b i = { s with accerr := true, rdata := Config.busyWord s.draws, draws := s.draws + 1 } := by
  rw [State.readWindow, if_pos hb]; rfl

/-- Settles O40: both windows read the word of their bank. -/
theorem windowReadReturnsWord : Obligations.WindowReadReturnsWord := by
  intro s i hb hi hn
  have hread {base b target} (hw : Window base b target) :
      exec (.rd (BitVec.ofNat 24 (base + 4 * i))) s = .next { s with rdata := s.readWord b i } := by
    rw [exec_rd, hw.execRd_eq hi hn, readWindow_of_not_busy hb]
  exact ⟨hread .re, hread .im⟩

/-- One word written reads back, and every other word of every bank is as before. -/
theorem writeWords_singleton_readWord (b c : BankId) (i j : Nat) (v : Word) (s : State) :
    (s.writeWords b i [v]).readWord c j = if c = b ∧ j = i then v else s.readWord c j := by
  have hrange : (c = b ∧ i ≤ j ∧ j < i + [v].length) ↔ c = b ∧ j = i :=
    and_congr_right fun _ => by rw [List.length_singleton]; omega
  simp only [writeWords_readWord, hrange]
  split_ifs with h
  · simp [h.2]
  · rfl

/-- Settles O41: both windows store to their bank, and the splice of one word changes that word only. -/
theorem windowWriteStoresWord : Obligations.WindowWriteStoresWord := by
  intro s i v hb hi hn
  have hwrite {base b target} (hw : Window base b target) :
      exec (.wr (BitVec.ofNat 24 (base + 4 * i)) v) s = .next (s.writeWords b i [v]) := by
    rw [exec_wr, hw.execWr_eq hi hn, if_neg (by simp [hb])]
  exact ⟨⟨_, hwrite .re, rfl, fun c j => writeWords_singleton_readWord .xr c i j v s⟩,
    _, hwrite .im, rfl, fun c j => writeWords_singleton_readWord .xi c i j v s⟩

/-! ### Accesses while BUSY = 1 -/

/-- A word written to CMD while a command runs is dropped, whatever it is (rule R242). -/
theorem commandWrite_of_busy {s : State} (hb : s.busy = true) (v : Word) : s.commandWrite v = s.overrun := by
  rw [State.commandWrite, if_pos hb]

/-- Settles O42: the windows and the lengths are refused; CTRL, STATUS and CAP are served as at any time, and CMD
drops the word. -/
theorem dataLockedWhileBusy : Obligations.DataLockedWhileBusy := by
  intro s i v hb hi hn
  have hwindow {base b target} (hw : Window base b target) :
      (∃ r, exec (.rd (BitVec.ofNat 24 (base + 4 * i))) s =
        .next { s with accerr := true, rdata := r, draws := s.draws + 1 }) ∧
      exec (.wr (BitVec.ofNat 24 (base + 4 * i)) v) s = .next { s with accerr := true } := by
    constructor
    · exact ⟨_, by rw [exec_rd, hw.execRd_eq hi hn, readWindow_of_busy hb]⟩
    · rw [exec_wr, hw.execWr_eq hi hn, if_pos hb]; rfl
  obtain ⟨hctrl, hcmd, hstatus, hcap, -, -⟩ := registerReads s
  obtain ⟨hctrl', hstatus', hcap', -⟩ := registerWrites s v
  refine ⟨?_, ?_, ?_, hctrl, hcmd, hstatus, hcap, hctrl', ?_, hstatus', hcap'⟩
  · rintro _ (rfl | rfl)
    · exact hwindow .re
    · exact hwindow .im
  · exact (execWr_lenRe v s).trans (by rw [if_pos hb]; rfl)
  · exact (execWr_lenIm v s).trans (by rw [if_pos hb]; rfl)
  · exact (execWr_cmd v s).trans (by rw [commandWrite_of_busy hb]; rfl)

/-- While BUSY = 1 a write changes only CTRL.IE, DONE, OVR and ACCERR (rules R61, R242). -/
theorem execWr_frame_of_busy {s : State} (hb : s.busy = true) (a : Addr) (v : Word) :
    ∃ ie d ovr acc, execWr a v s = .next { s with ie := ie, done := d, ovr := ovr, accerr := acc } := by
  unfold execWr
  simp only [commandWrite_of_busy hb, if_pos hb]
  split <;> exact ⟨_, _, _, _, rfl⟩

/-! ### What a step runs -/

theorem step_of_access {s : State} {t : BusTriple} {rest : List HostEvent} (h : s.host = .access t :: rest) :
    step s = exec (decodeBus t) { s with host := rest } := by
  rw [step, fetch, h]

theorem step_of_reset {s : State} {rest : List HostEvent} (h : s.host = .reset :: rest) :
    step s = .next ({ s with host := rest } : State).afterReset := by
  rw [step, fetch, h]

/-- At a turn, or with no event pending, the sequencer's turn is what a step finds (rules R64, R241). -/
theorem fetch_of_turn {s : State} {rest : List HostEvent} (h : s.host = .turn :: rest ∨ (s.host = [] ∧ rest = [])) :
    fetch s = sequencerTurn { s with host := rest } := by
  rcases h with h | ⟨h, rfl⟩
  · rw [fetch, h]
  · have hs : { s with host := [] } = s := by rw [← h]
    rw [fetch, h, hs]

/-- With BUSY = 0 the sequencer takes no step (rules R241, R274). -/
theorem step_of_turn_not_busy {s u : State} (hf : fetch s = sequencerTurn u) (hb : u.busy = false) :
    step s = .next u := by
  rw [step, hf, sequencerTurn, if_neg (by simp [hb])]

/-- With BUSY = 1 the sequencer runs the micro-operation PHASE names (rules R84, R241). -/
theorem step_of_turn_busy {s u : State} {i : Instr} (hf : fetch s = sequencerTurn u) (hb : u.busy = true)
    (hd : decode (.phase u.phase.code) = .ok i) : step s = exec i u := by
  rw [step, hf, sequencerTurn, if_pos hb, hd]

/-- BUSY = 1 with PHASE = IDLE, which no run reaches, stops the model (log 17). -/
theorem step_of_turn_idle {s u : State} (hf : fetch s = sequencerTurn u) (hb : u.busy = true) (hp : u.phase = .idle) :
    step s = .fault .noMicroOp := by
  rw [step, hf, sequencerTurn, if_pos hb, hp]; rfl

/-- Settles O7, by what the step finds to do. -/
theorem stepRunsDecodedInstruction : Obligations.StepRunsDecodedInstruction := by
  intro s rest
  refine ⟨fun t h => step_of_access h, step_of_reset, fun h => ?_⟩
  have hf := fetch_of_turn h
  exact ⟨step_of_turn_not_busy hf, fun i => step_of_turn_busy hf, fun hb hp => step_of_turn_idle hf hb hp⟩

/-- Settles O43: the step is one read or one write, and neither reaches the command while BUSY = 1. -/
theorem hostCannotDisturbCommand : Obligations.HostCannotDisturbCommand := by
  intro s t a rest hb hhost hstep
  rw [step_of_access hhost] at hstep
  rcases exec_decodeBus a { s with host := rest } with hx | hx <;> rw [hx] at hstep
  · obtain ⟨acc, w, n, hr⟩ := execRd_frame a.addr { s with host := rest }
    cases hr.symm.trans hstep
    rfl
  · obtain ⟨ie, d, ovr, acc, hr⟩ := execWr_frame_of_busy (s := { s with host := rest }) hb a.addr a.data
    cases hr.symm.trans hstep
    rfl

end Sys2Proof.Machine
end

section
/-! SUPPORT. The byte lanes of a word (rule R59). -/

namespace Sys2Proof

/-- A lane with the width of the word written as the sum of the widths of its bytes, so that they can be taken off. -/
theorem byteLane_ofByteLanes (b0 b1 b2 b3 : Byte) (j : Nat) :
    byteLane (ofByteLanes b0 b1 b2 b3) j = (b3 ++ b2 ++ b1 ++ b0).extractLsb' (8 * j) 8 := rfl

theorem getLsbD_byteLane (w : Word) (j : Nat) {b : Nat} (hb : b < 8) :
    (byteLane w j).getLsbD b = w.getLsbD (8 * j + b) := by
  simp [byteLane, hb]

/-- The word is its four lanes, lane 0 lowest. -/
theorem ofByteLanes_byteLane (w : Word) :
    ofByteLanes (byteLane w 0) (byteLane w 1) (byteLane w 2) (byteLane w 3) = w := by
  unfold ofByteLanes byteLane
  rw [BitVec.extractLsb'_append_extractLsb'_eq_extractLsb' (by decide),
    BitVec.extractLsb'_append_extractLsb'_eq_extractLsb' (by decide),
    BitVec.extractLsb'_append_extractLsb'_eq_extractLsb' (by decide)]
  exact BitVec.extractLsb'_eq_self

/-- Settles O6, by taking the bytes off from the lowest one and putting neighbouring lanes together. -/
theorem byteLanesLittleEndian : Obligations.ByteLanesLittleEndian := by
  refine ⟨ofByteLanes_byteLane, fun b0 b1 b2 b3 => ⟨?_, ?_, ?_, ?_⟩, fun w j b _ hb => getLsbD_byteLane w j hb⟩
  all_goals
    simp (disch := decide) only [byteLane_ofByteLanes, BitVec.extractLsb'_append_eq_of_le,
      BitVec.extractLsb'_append_eq_of_add_le, -Nat.reduceAdd]
    simp

end Sys2Proof
end

section
/-! SUPPORT. The encoding: a command word as its two fields and as the command it stands for, the PHASE codes, and that
the decoder and the encoder are inverse to each other (rules R80 to R84, R89, R90). -/

namespace Sys2Proof

/-! ### Command words -/

/-- The word of two fields has them at the places of rule R81. -/
theorem commandWord_eq_iff (rsv : BitVec 28) (opc : BitVec 4) (w : Word) :
    commandWord rsv opc = w ↔ rsv = w.extractLsb' 4 28 ∧ opc = w.extractLsb' 0 4 := by
  constructor
  · rintro rfl
    exact ⟨BitVec.extractLsb'_append_eq_left.symm, BitVec.extractLsb'_append_eq_right.symm⟩
  · rintro ⟨rfl, rfl⟩
    exact BitVec.extractLsb'_append_extractLsb' (len := 4) (w := 28)

/-- The fields of BADCMD are those of every word but the two commands (rules R82, R83). -/
theorem badCommandFields_iff (rsv : BitVec 28) (opc : BitVec 4) :
    badCommandFields rsv opc = true ↔
      commandWord rsv opc ≠ 0x00000001#32 ∧ commandWord rsv opc ≠ 0x00000002#32 := by
  have hfwd : commandWord rsv opc = 0x00000001#32 ↔ rsv = 0#28 ∧ opc = 1#4 := commandWord_eq_iff _ _ _
  have hinv : commandWord rsv opc = 0x00000002#32 ↔ rsv = 0#28 ∧ opc = 2#4 := commandWord_eq_iff _ _ _
  simp only [badCommandFields, Bool.or_eq_true, Bool.and_eq_true, bne_iff_ne, ne_eq, hfwd, hinv]
  tauto

/-- What a command word stands for: one of the two commands, or BADCMD (rules R82, R83). -/
theorem decodeCmd_cases (w : Word) :
    (w = 0x00000001#32 ∧ decodeCmd w = .fftFwd) ∨ (w = 0x00000002#32 ∧ decodeCmd w = .fftInv) ∨
    (w ≠ 0x00000001#32 ∧ w ≠ 0x00000002#32 ∧ decodeCmd w = .badCmd (w.extractLsb' 4 28) (w.extractLsb' 0 4)) := by
  unfold decodeCmd
  split_ifs with h1 h2
  · exact .inl ⟨h1, rfl⟩
  · exact .inr (.inl ⟨h2, rfl⟩)
  · exact .inr (.inr ⟨h1, h2, rfl⟩)

/-- A word stands for BADCMD with its own fields, unless it is one of the two commands (rule R83). -/
theorem decodeCmd_eq_badCmd_iff (w : Word) (rsv : BitVec 28) (opc : BitVec 4) :
    decodeCmd w = .badCmd rsv opc ↔ w = commandWord rsv opc ∧ w ≠ 0x00000001#32 ∧ w ≠ 0x00000002#32 := by
  rw [eq_comm (a := w), commandWord_eq_iff]
  obtain ⟨rfl, hw⟩ | ⟨rfl, hw⟩ | ⟨h1, h2, hw⟩ := decodeCmd_cases w
  · simp [hw]
  · simp [hw]
  · simp [hw, h1, h2, eq_comm]

theorem decodeCmd_wf (w : Word) : (decodeCmd w).wf = true := by
  obtain ⟨-, hw⟩ | ⟨-, hw⟩ | ⟨h1, h2, hw⟩ := decodeCmd_cases w
  · rw [hw]; rfl
  · rw [hw]; rfl
  · have hword := ((decodeCmd_eq_badCmd_iff _ _ _).mp hw).1
    rw [hw]
    exact (badCommandFields_iff _ _).mpr (hword ▸ ⟨h1, h2⟩)

theorem encode_decodeCmd (w : Word) : encode (decodeCmd w) = cmdWrite w := by
  obtain ⟨rfl, hw⟩ | ⟨rfl, hw⟩ | ⟨-, -, hw⟩ := decodeCmd_cases w
  · rw [hw]; rfl
  · rw [hw]; rfl
  · rw [hw, encode, ← ((decodeCmd_eq_badCmd_iff _ _ _).mp hw).1]

/-- Settles O4, by what a command word stands for. -/
theorem commandWordsAreTwo : Obligations.CommandWordsAreTwo := by
  intro w
  refine ⟨?_, ?_, decodeCmd_eq_badCmd_iff w⟩
  all_goals
    obtain ⟨rfl, hw⟩ | ⟨rfl, hw⟩ | ⟨h1, h2, hw⟩ := decodeCmd_cases w
    · simp [hw]
    · simp [hw]
    · simp [hw, h1, h2]

/-! ### PHASE codes -/

/-- The codes that are never reported (rule R84). -/
theorem decodePhase_reserved {code : BitVec 4} (h : 9 ≤ code.toNat) :
    decodePhase code = .error (.reservedPhase code) := by
  unfold decodePhase
  split
  case h_10 => rfl
  all_goals omega

/-- A code that names a micro-operation is the code of a phase (rule R84). -/
theorem exists_phase_of_decodePhase {code : BitVec 4} {i : Instr} (h : decodePhase code = .ok i) :
    ∃ p : Phase, p.code = code := by
  unfold decodePhase at h
  split at h
  case h_1 | h_10 => cases h
  case h_2 hc => exact ⟨.validate, BitVec.eq_of_toNat_eq hc.symm⟩
  case h_3 hc => exact ⟨.permute, BitVec.eq_of_toNat_eq hc.symm⟩
  case h_4 hc => exact ⟨.baseFwd, BitVec.eq_of_toNat_eq hc.symm⟩
  case h_5 hc => exact ⟨.baseInv, BitVec.eq_of_toNat_eq hc.symm⟩
  case h_6 hc => exact ⟨.mergeFwd, BitVec.eq_of_toNat_eq hc.symm⟩
  case h_7 hc => exact ⟨.mergeInv, BitVec.eq_of_toNat_eq hc.symm⟩
  case h_8 hc => exact ⟨.copyback, BitVec.eq_of_toNat_eq hc.symm⟩
  case h_9 hc => exact ⟨.normalize, BitVec.eq_of_toNat_eq hc.symm⟩

/-- The micro-operation a phase names is well formed, and its encoding is the phase's code (rule R84). -/
theorem wf_and_encode_of_decode_phase {p : Phase} {i : Instr} (h : decode (.phase p.code) = .ok i) :
    i.wf = true ∧ encode i = .phase p.code := by
  cases p <;> cases h <;> exact ⟨rfl, rfl⟩

/-- Settles O5: the codes 0 to 8 by evaluation, the others by their range, the phases one by one. -/
theorem phaseCodesDecode : Obligations.PhaseCodesDecode := by
  refine ⟨rfl, rfl, rfl, rfl, rfl, rfl, rfl, rfl, rfl, rfl, fun _ => decodePhase_reserved, fun p i hmem => ?_⟩
  have hd : decode (.phase p.code) = .ok i := by
    simp only [List.mem_cons, List.not_mem_nil, or_false, Prod.mk.injEq] at hmem
    obtain ⟨rfl, rfl⟩ | ⟨rfl, rfl⟩ | ⟨rfl, rfl⟩ | ⟨rfl, rfl⟩ | ⟨rfl, rfl⟩ | ⟨rfl, rfl⟩ | ⟨rfl, rfl⟩ | ⟨rfl, rfl⟩ :=
      hmem <;> rfl
  exact ⟨hd, (wf_and_encode_of_decode_phase hd).2⟩

/-! ### The decoder and the encoder -/

/-- A bus transaction is the encoding of the instruction it stands for; a read keeps its address only (rule R89). -/
theorem wf_and_encode_decodeBus (t : BusTriple) :
    (decodeBus t).wf = true ∧ (encode (decodeBus t) = .bus t ∨
      ∃ a d, Code.bus t = .bus { dir := .r, addr := a, data := d } ∧ decodeBus t = .rd a) := by
  obtain ⟨dir, addr, data⟩ := t
  cases dir with
  | r => exact ⟨rfl, .inr ⟨addr, data, rfl, rfl⟩⟩
  | w =>
    by_cases ha : addr = cmdAddr
    · subst ha
      exact ⟨decodeCmd_wf data, .inl (encode_decodeCmd data)⟩
    · have hwr : decodeBus { dir := .w, addr := addr, data := data } = .wr addr data := if_neg ha
      rw [hwr]
      exact ⟨bne_iff_ne.mpr ha, .inl rfl⟩

/-- Settles O1: only BADCMD and WR need their check, by which the word is no command and the address is not CMD's. -/
theorem decodeEncodeAgree : Obligations.DecodeEncodeAgree := by
  intro i hwf
  cases i with
  | badCmd rsv opc =>
    exact congrArg Except.ok
      ((decodeCmd_eq_badCmd_iff _ _ _).mpr ⟨rfl, (badCommandFields_iff rsv opc).mp hwf⟩)
  | wr addr data => exact congrArg Except.ok (if_neg (bne_iff_ne.mp hwf))
  | fftFwd | fftInv | validate | permute | baseFwd | baseInv | mergeFwd | mergeInv | copyback | normalize | rd => rfl

/-- Settles O2: a bus transaction by its direction and address, a PHASE code by the phase it names. -/
theorem encodeDecodeAgree : Obligations.EncodeDecodeAgree := by
  intro c i h
  cases c with
  | bus t =>
    cases h
    exact wf_and_encode_decodeBus t
  | phase code =>
    obtain ⟨p, rfl⟩ := exists_phase_of_decodePhase h
    exact (wf_and_encode_of_decode_phase h).imp id .inl

/-- Settles O3: closed facts about the decoder, which evaluates them. -/
theorem specWordsDecode : Obligations.SpecWordsDecode := by
  unfold Obligations.SpecWordsDecode
  decide

end Sys2Proof
end

section
/-! SUPPORT. Where a step finds what it runs: one read of a poll, and an opcode-table word placed by withFetchWord
(rule R88, logs 4 and 15). -/

namespace Sys2Proof.Machine

/-- A pending poll is one read (rule R88). -/
theorem step_of_poll {s : State} {a : Addr} {mask value : Word} {rest : List HostEvent}
    (h : s.host = .poll a mask value :: rest) :
    step s = pollOutcome a mask value (exec (.rd a) { s with host := rest }) := by
  rw [step, fetch, h]

/-- Settles O8: the step is the read, and the poll stands again unless its word matched. -/
theorem pollReadsUntilMatch : Obligations.PollReadsUntilMatch := by
  intro s t a mask value rest hhost hread
  rw [step_of_poll hhost, hread, pollOutcome, afterPoll]

/-- An opcode-table word stands for what its code decodes to. -/
theorem decodeTableWord_eq_some_iff (nbits w : Nat) (i : Instr) :
    decodeTableWord nbits w = some i ↔ decode (tableCode nbits w) = .ok i := by
  unfold decodeTableWord
  cases decode (tableCode nbits w) <;> simp

theorem withFetchWord_of_bus {nbits w : Nat} {t : BusTriple} (hc : tableCode nbits w = .bus t) (s : State) :
    s.withFetchWord nbits w = { s with host := .access t :: s.host } := by
  rw [State.withFetchWord, State.placeCode, hc]

theorem withFetchWord_of_phase {nbits w : Nat} {code : BitVec 4} {i : Instr} (hc : tableCode nbits w = .phase code)
    (hd : decode (.phase code) = .ok i) (s : State) : s.withFetchWord nbits w = s.placePhase i w := by
  simp only [State.withFetchWord, State.placeCode, hc, hd]

/-- The sequencer is placed at the micro-operation of a phase, with a turn to run it (log 15). -/
theorem placePhase_turn {p : Phase} {i : Instr} (h : decode (.phase p.code) = .ok i) (w : Nat) (s : State) :
    (s.placePhase i w).busy = true ∧ (s.placePhase i w).phase = p ∧ (s.placePhase i w).host = .turn :: s.host := by
  cases p <;> cases h <;> exact ⟨rfl, rfl, rfl⟩

/-- Settles O9: a command word is the pending access, a PHASE code the sequencer's turn. -/
theorem fetchWordIsRunNext : Obligations.FetchWordIsRunNext := by
  intro s nbits w i h
  rw [decodeTableWord_eq_some_iff] at h
  cases hc : tableCode nbits w with
  | bus t =>
    have hi : decodeBus t = i := by rw [hc] at h; exact Except.ok.inj h
    rw [withFetchWord_of_bus hc, ← hi]
    exact step_of_access rfl
  | phase code =>
    rw [hc] at h
    obtain ⟨p, rfl⟩ := exists_phase_of_decodePhase h
    obtain ⟨hbusy, hphase, hhost⟩ := placePhase_turn h w s
    rw [withFetchWord_of_phase hc h]
    exact step_of_turn_busy (fetch_of_turn (.inl hhost)) hbusy (by rw [hphase]; exact h)

end Sys2Proof.Machine
end

section
/-! SUPPORT. Rounding (rule R101): what a nearest significand is, over the reals, that packing one rounds as `RoundsTo`
says, and that `rn32` finds one. A magnitude is a real number in units of 2^(-149), the smallest positive value. -/

namespace Sys2Proof.Machine

/-! ### The real value of a binary32 value -/

/-- The sign of a value as a factor. -/
noncomputable def signFactor (neg : Bool) : ℝ := if neg then -1 else 1

@[simp] theorem signFactor_false : signFactor false = 1 := rfl
@[simp] theorem signFactor_true : signFactor true = -1 := rfl

@[simp] theorem signFactor_not (s : Bool) : signFactor (!s) = -signFactor s := by
  cases s <;> simp

theorem signFactor_xor (s t : Bool) : signFactor (s ^^ t) = signFactor s * signFactor t := by
  cases s <;> cases t <;> simp

theorem signFactor_ne_zero (s : Bool) : signFactor s ≠ 0 := by
  cases s <;> simp

/-- The magnitude of a finite value in units of 2^(-149) is the natural number `sig * 2^exp`. -/
theorem toReal_fin (s : Bool) (sig exp : Nat) :
    (Fl.fin s sig exp).toReal = signFactor s * ((sig * 2 ^ exp : ℕ) : ℝ) / 2 ^ 149 := by
  rw [Fl.toReal, signFactor]
  push_cast
  ring

theorem toReal_fneg (x : Fl) : (fneg x).toReal = -x.toReal := by
  cases x with
  | nan => simp [fneg, Fl.toReal]
  | inf s => simp [fneg, Fl.toReal]
  | fin s m e =>
    rw [fneg, toReal_fin, toReal_fin, signFactor_not]
    ring

theorem fneg_fneg (x : Fl) : fneg (fneg x) = x := by
  cases x <;> simp [fneg]

theorem isFinite_fneg {x : Fl} (h : x.IsFinite) : (fneg x).IsFinite := by
  obtain ⟨hwf, s, m, e, rfl⟩ := h
  exact ⟨hwf, !s, m, e, rfl⟩

theorem fin_wf_iff (s : Bool) (sig exp : Nat) :
    (Fl.fin s sig exp).wf = true ↔ sig < 2 ^ 24 ∧ (exp = 0 ∨ 2 ^ 23 ≤ sig) ∧ exp ≤ 253 := by
  simp only [Fl.wf, Bool.and_eq_true, Bool.or_eq_true, beq_iff_eq, Nat.blt_eq, Nat.ble_eq]
  norm_num [and_assoc]

/-- Rounding to nearest even is symmetric in the sign (rule R101). -/
theorem roundsTo_neg {r : ℝ} {x : Fl} (h : RoundsTo r x) : RoundsTo (-r) (fneg x) := by
  obtain ⟨hpos, hneg, hfin⟩ := h
  refine ⟨fun hr => ?_, fun hr => ?_, fun hr => ?_⟩
  · rw [hneg (by linarith)]; rfl
  · rw [hpos (by linarith)]; rfl
  · obtain ⟨s, m, e, rfl, hwf, hnear⟩ := hfin (by rwa [abs_neg] at hr)
    refine ⟨!s, m, e, rfl, hwf, fun y hy => ?_⟩
    have hdist (a : ℝ) : |-a - -r| = |a - r| := by rw [← abs_neg]; ring_nf
    have hmirror := hnear (fneg y) (isFinite_fneg hy)
    rw [← hdist, ← toReal_fneg, ← hdist, ← toReal_fneg (fneg y), fneg_fneg, toReal_fneg y] at hmirror
    exact ⟨hmirror.1, fun heq hne => hmirror.2 heq fun h => hne (by rw [toReal_fneg, ← h, neg_neg])⟩

/-! ### The nearest significand -/

/-- `sig` is the nearest significand, even on a tie, to the magnitude R at the exponent `exp`, which is the one of R:
the least when R is below 2^24 units, else the one that makes the significand 24 bits long. -/
structure IsNearest (R : ℝ) (sig exp : Nat) : Prop where
  near : |(sig : ℝ) * 2 ^ exp - R| ≤ 2 ^ exp / 2
  even : |(sig : ℝ) * 2 ^ exp - R| = 2 ^ exp / 2 → sig % 2 = 0
  low  : exp = 0 ∨ 2 ^ 23 * 2 ^ exp ≤ R
  high : R < 2 ^ 24 * 2 ^ exp

/-- A significand and exponent as a value, where rounding up to 2^24 carries into the exponent. -/
def carryFl (neg : Bool) (sig exp : Nat) : Fl :=
  bif sig == 16777216 then packFl neg 8388608 (exp + 1) else packFl neg sig exp

theorem rn32_eq_carryFl (neg : Bool) (num den : Nat) :
    rn32 neg num den =
      carryFl neg (roundHalfEven num (den <<< (bitLog (num / den) - 23))) (bitLog (num / den) - 23) := rfl

theorem packFl_of_le {exp : Nat} (h : 254 ≤ exp) (neg : Bool) (sig : Nat) : packFl neg sig exp = .inf neg := by
  rw [packFl, Nat.ble_eq_true_of_le h, cond_true]

theorem packFl_of_lt {exp : Nat} (h : exp < 254) (neg : Bool) (sig : Nat) : packFl neg sig exp = .fin neg sig exp := by
  have hb : Nat.ble 254 exp = false := by
    rw [Bool.eq_false_iff]; intro hc; exact absurd (Nat.le_of_ble_eq_true hc) (by omega)
  rw [packFl, hb, cond_false]

theorem carryFl_of_carry (neg : Bool) (exp : Nat) : carryFl neg (2 ^ 24) exp = packFl neg (2 ^ 23) (exp + 1) := rfl

theorem carryFl_of_ne {sig : Nat} (h : sig ≠ 2 ^ 24) (neg : Bool) (exp : Nat) :
    carryFl neg sig exp = packFl neg sig exp := by
  have hb : (sig == 16777216) = false := by simpa using h
  rw [carryFl, hb, cond_false]

theorem carryFl_of_le {exp : Nat} (h : 254 ≤ exp) (neg : Bool) (sig : Nat) : carryFl neg sig exp = .inf neg := by
  by_cases hs : sig = 2 ^ 24
  · rw [hs, carryFl_of_carry, packFl_of_le (by omega)]
  · rw [carryFl_of_ne hs, packFl_of_le h]

theorem packFl_not (neg : Bool) (sig exp : Nat) : packFl (!neg) sig exp = fneg (packFl neg sig exp) := by
  unfold packFl
  cases Nat.ble 254 exp <;> rfl

theorem carryFl_not (neg : Bool) (sig exp : Nat) : carryFl (!neg) sig exp = fneg (carryFl neg sig exp) := by
  unfold carryFl
  cases sig == 16777216 <;> exact packFl_not ..

/-- A finite value is on the grid of any exponent, or below the first 24-bit significand of it. -/
theorem grid_or_below {y : Fl} (hy : y.IsFinite) (exp : Nat) :
    (∃ k : ℤ, y.toReal * 2 ^ 149 = k * 2 ^ exp) ∨ (exp ≠ 0 ∧ y.toReal * 2 ^ 149 < 2 ^ 23 * 2 ^ exp) := by
  obtain ⟨hwf, s, n, f, rfl⟩ := hy
  obtain ⟨hlt, -, -⟩ := (fin_wf_iff s n f).mp hwf
  have hunits : (Fl.fin s n f).toReal * 2 ^ 149 = signFactor s * (n * 2 ^ f) := by
    rw [toReal_fin]; push_cast; field_simp
  rw [hunits]
  rcases Nat.lt_or_ge f exp with hf | hf
  · refine .inr ⟨by omega, ?_⟩
    have hn : n * 2 ^ f < 2 ^ 23 * 2 ^ exp := calc
      n * 2 ^ f < 2 ^ 24 * 2 ^ f := Nat.mul_lt_mul_of_pos_right hlt (Nat.two_pow_pos f)
      _ = 2 ^ 23 * 2 ^ (f + 1) := by ring
      _ ≤ 2 ^ 23 * 2 ^ exp := Nat.mul_le_mul_left _ (Nat.pow_le_pow_right (by norm_num) hf)
    have hn' : (n : ℝ) * 2 ^ f < 2 ^ 23 * 2 ^ exp := by exact_mod_cast hn
    have h0 : (0 : ℝ) ≤ n * 2 ^ f := by positivity
    cases s <;> simp only [signFactor_false, signFactor_true] <;> linarith
  · refine .inl ⟨(if s then -1 else 1) * (n * 2 ^ (f - exp)), ?_⟩
    have hpow : (2 : ℝ) ^ f = 2 ^ (f - exp) * 2 ^ exp := by rw [← pow_add, Nat.sub_add_cancel hf]
    rw [hpow]
    cases s <;> simp <;> ring

/-- Distinct grid points are a whole unit apart, so every other one is at least half a unit from R. -/
theorem IsNearest.half_le_of_ne {R : ℝ} {sig exp : Nat} (h : IsNearest R sig exp) {k : ℤ} (hk : k ≠ sig) :
    (2 : ℝ) ^ exp / 2 ≤ |(k : ℝ) * 2 ^ exp - R| := by
  have hU : (0 : ℝ) < 2 ^ exp := by positivity
  have hone : (1 : ℝ) ≤ |(k : ℝ) - sig| := by
    have : (1 : ℤ) ≤ |k - sig| := Int.one_le_abs (sub_ne_zero.mpr hk)
    exact_mod_cast this
  have hapart : (2 : ℝ) ^ exp ≤ |(k : ℝ) * 2 ^ exp - sig * 2 ^ exp| := by
    rw [← sub_mul, abs_mul, abs_of_pos hU]; nlinarith
  have htri := abs_sub_le ((k : ℝ) * 2 ^ exp) R (sig * 2 ^ exp)
  rw [abs_sub_comm R] at htri
  linarith [h.near]

/-- A point below the first 24-bit significand is farther from R than the nearest significand. -/
theorem IsNearest.lt_of_below {R : ℝ} {sig exp : Nat} (h : IsNearest R sig exp) {v : ℝ} (hexp : exp ≠ 0)
    (hlt : v < 2 ^ 23 * 2 ^ exp) : |(sig : ℝ) * 2 ^ exp - R| < |v - R| := by
  have hlow : 2 ^ 23 * 2 ^ exp ≤ R := h.low.resolve_left hexp
  have hfirst : |((2 ^ 23 : ℤ) : ℝ) * 2 ^ exp - R| < |v - R| := by
    push_cast
    rw [abs_of_nonpos (by linarith), abs_of_neg (by linarith)]
    linarith
  by_cases hsig : (2 ^ 23 : ℤ) = sig
  · rw [hsig] at hfirst
    exact_mod_cast hfirst
  · exact (h.near.trans (h.half_le_of_ne hsig)).trans_lt hfirst

/-- The nearest significand is at least as near as any point that is on the grid or below the first 24-bit significand,
and even when another one is as near. -/
theorem IsNearest.le_of_grid {R : ℝ} {sig exp : Nat} (h : IsNearest R sig exp) {v : ℝ}
    (hv : (∃ k : ℤ, v = k * 2 ^ exp) ∨ (exp ≠ 0 ∧ v < 2 ^ 23 * 2 ^ exp)) :
    |(sig : ℝ) * 2 ^ exp - R| ≤ |v - R| ∧
      (|(sig : ℝ) * 2 ^ exp - R| = |v - R| → v ≠ sig * 2 ^ exp → sig % 2 = 0) := by
  rcases hv with ⟨k, rfl⟩ | ⟨hexp, hlt⟩
  · by_cases hk : k = sig
    · subst hk
      exact ⟨le_of_eq (by push_cast; rfl), fun _ hne => absurd (by push_cast; rfl) hne⟩
    · have hhalf := h.half_le_of_ne hk
      exact ⟨h.near.trans hhalf, fun heq _ => h.even (le_antisymm h.near (heq ▸ hhalf))⟩
  · have hfar := h.lt_of_below hexp hlt
    exact ⟨hfar.le, fun heq => absurd heq hfar.ne⟩

theorem IsNearest.sig_le {R : ℝ} {sig exp : Nat} (h : IsNearest R sig exp) : sig ≤ 2 ^ 24 := by
  have hU : (0 : ℝ) < 2 ^ exp := by positivity
  have hclose := (abs_le.mp h.near).2
  by_contra hc
  have hs : (2 : ℝ) ^ 24 + 1 ≤ sig := by exact_mod_cast Nat.lt_of_not_le hc
  nlinarith [h.high]

theorem IsNearest.le_sig {R : ℝ} {sig exp : Nat} (h : IsNearest R sig exp) (hexp : exp ≠ 0) : 2 ^ 23 ≤ sig := by
  have hU : (0 : ℝ) < 2 ^ exp := by positivity
  have hclose := (abs_le.mp h.near).1
  by_contra hc
  have hs : (sig : ℝ) + 1 ≤ 2 ^ 23 := by exact_mod_cast Nat.lt_of_not_le hc
  nlinarith [h.low.resolve_left hexp]

/-! ### Packing rounds -/

/-- From `2^128 - 2^103` on, the magnitude `(2^24 - 1/2) * 2^253`, the nearest significand packs to an infinity. -/
theorem IsNearest.carryFl_overflow {R : ℝ} {sig exp : Nat} (h : IsNearest R sig exp)
    (hR : (2 ^ 24 - 1 / 2) * 2 ^ 253 ≤ R) : carryFl false sig exp = .inf false := by
  rcases Nat.lt_trichotomy exp 253 with hexp | rfl | hexp
  · exfalso
    have hpow : (2 : ℝ) ^ exp ≤ 2 ^ 252 := pow_le_pow_right₀ (by norm_num) (by omega)
    have hhigh := h.high
    norm_num at hpow hhigh hR
    linarith
  · have hsig : sig = 2 ^ 24 := by
      refine le_antisymm h.sig_le (not_lt.mp fun hlt => ?_)
      have hs : (sig : ℝ) + 1 ≤ 2 ^ 24 := by exact_mod_cast hlt
      have hclose := (abs_le.mp h.near).1
      have hU : (0 : ℝ) < 2 ^ 253 := by positivity
      have htie : (sig : ℝ) * 2 ^ 253 - R = -(2 ^ 253 / 2) := by nlinarith
      have hlast : (sig : ℝ) + 1 = 2 ^ 24 := by nlinarith
      have hlast' : sig + 1 = 2 ^ 24 := by exact_mod_cast hlast
      have := h.even (by rw [htie, abs_neg, abs_of_pos (by positivity)])
      omega
    rw [hsig, carryFl_of_carry, packFl_of_le (by norm_num)]
  · exact carryFl_of_le (by omega) _ _

/-- Below `2^128 - 2^103` the nearest significand packs to a finite value of the same magnitude, with a significand of
the same parity. -/
theorem IsNearest.carryFl_finite {R : ℝ} {sig exp : Nat} (h : IsNearest R sig exp)
    (hR : R < (2 ^ 24 - 1 / 2) * 2 ^ 253) :
    ∃ m e, carryFl false sig exp = .fin false m e ∧ m * 2 ^ e = sig * 2 ^ exp ∧ m % 2 = sig % 2 ∧
      (Fl.fin false m e).wf = true := by
  have hexp : exp ≤ 253 := by
    by_contra hc
    have hpow : (2 : ℝ) ^ 254 ≤ 2 ^ exp := pow_le_pow_right₀ (by norm_num) (by omega)
    have hlow := h.low.resolve_left (by omega)
    norm_num at hpow hlow hR
    linarith
  by_cases hsig : sig = 2 ^ 24
  · subst hsig
    have hexp' : exp ≠ 253 := by
      rintro rfl
      have hclose := (abs_le.mp h.near).2
      push_cast at hclose
      linarith
    refine ⟨2 ^ 23, exp + 1, ?_, by ring, by norm_num, ?_⟩
    · rw [carryFl_of_carry, packFl_of_lt (by omega)]
    · exact (fin_wf_iff _ _ _).mpr ⟨by norm_num, .inr le_rfl, by omega⟩
  · refine ⟨sig, exp, ?_, rfl, rfl, ?_⟩
    · rw [carryFl_of_ne hsig, packFl_of_lt (by omega)]
    · refine (fin_wf_iff _ _ _).mpr ⟨lt_of_le_of_ne h.sig_le hsig, ?_, hexp⟩
      exact (Nat.eq_zero_or_pos exp).imp id fun hpos => h.le_sig (by omega)

/-- A real from `2^128 - 2^103` on rounds to an infinity (rule R101). -/
theorem roundsTo_inf {r : ℝ} (hr : 2 ^ 128 - 2 ^ 103 ≤ r) : RoundsTo r (.inf false) := by
  refine ⟨fun _ => rfl, fun h => ?_, fun h => ?_⟩
  · norm_num at hr h; linarith
  · exact absurd (lt_of_abs_lt h) (not_lt.mpr hr)

/-- Packing the nearest significand of a magnitude is rounding to nearest even (rule R101). -/
theorem IsNearest.roundsTo {R : ℝ} {sig exp : Nat} (h : IsNearest R sig exp) (h0 : 0 ≤ R) :
    RoundsTo (R / 2 ^ 149) (carryFl false sig exp) := by
  have hscale : (2 : ℝ) ^ 128 - 2 ^ 103 = (2 ^ 24 - 1 / 2) * 2 ^ 253 / 2 ^ 149 := by norm_num
  rcases le_or_gt ((2 ^ 24 - 1 / 2) * 2 ^ 253) R with hR | hR
  · rw [h.carryFl_overflow hR]
    refine roundsTo_inf ?_
    rw [hscale]
    gcongr
  · have hsmall : R / 2 ^ 149 < 2 ^ 128 - 2 ^ 103 := by rw [hscale]; gcongr
    have hpos : 0 ≤ R / 2 ^ 149 := by positivity
    refine ⟨fun hr => absurd hsmall (not_lt.mpr hr), fun hr => ?_, fun _ => ?_⟩
    · exfalso; norm_num at hr hpos; linarith
    obtain ⟨m, e, hfin, hmag, hpar, hwf⟩ := h.carryFl_finite hR
    refine ⟨false, m, e, hfin, by rw [hfin]; exact hwf, fun y hy => ?_⟩
    have hval : (Fl.fin false m e).toReal = (sig : ℝ) * 2 ^ exp / 2 ^ 149 := by
      rw [toReal_fin, hmag, signFactor_false]; push_cast; ring
    have hdist (v : ℝ) : |v / 2 ^ 149 - R / 2 ^ 149| = |v - R| / 2 ^ 149 := by
      rw [← sub_div, abs_div, abs_of_pos (by positivity : (0 : ℝ) < 2 ^ 149)]
    have hy' : y.toReal = y.toReal * 2 ^ 149 / 2 ^ 149 := by field_simp
    obtain ⟨hle, heven⟩ := h.le_of_grid (grid_or_below hy exp)
    rw [hfin, hval, hpar, hy', hdist, hdist]
    refine ⟨by gcongr, fun heq hne => heven ?_ fun h => hne (by rw [h])⟩
    exact (div_left_inj' (by positivity)).mp heq

/-! ### `rn32` finds the nearest significand -/

/-- Dividing and rounding half to even gives the nearest natural number, the even one on a tie. -/
theorem roundHalfEven_spec (num : Nat) {den : Nat} (hden : 0 < den) :
    |(roundHalfEven num den : ℝ) - num / den| ≤ 1 / 2 ∧
      (|(roundHalfEven num den : ℝ) - num / den| = 1 / 2 → roundHalfEven num den % 2 = 0) := by
  have hd : (0 : ℝ) < den := by exact_mod_cast hden
  have hnum : (num : ℝ) = den * (num / den : ℕ) + (num % den : ℕ) := by exact_mod_cast (Nat.div_add_mod num den).symm
  generalize hk : num / den = k at hnum
  generalize hr : num % den = r at hnum
  have hrlt : (r : ℝ) < den := by exact_mod_cast hr ▸ Nat.mod_lt num hden
  have hdiv : (num : ℝ) / den = k + r / den := by rw [hnum]; field_simp
  have h0 : (0 : ℝ) ≤ r / den := by positivity
  have h1 : (r : ℝ) / den < 1 := (div_lt_one hd).mpr hrlt
  have hhalf : (r : ℝ) / den < 1 / 2 ↔ 2 * r < den := by
    rw [div_lt_div_iff₀ hd two_pos, one_mul, mul_comm]; exact_mod_cast Iff.rfl
  have hhalf' : 1 / 2 < (r : ℝ) / den ↔ den < 2 * r := by
    rw [div_lt_div_iff₀ two_pos hd, one_mul, mul_comm]; exact_mod_cast Iff.rfl
  rw [roundHalfEven, hk, hr, hdiv]
  simp only [Bool.cond_eq_ite, Nat.blt_eq]
  split_ifs with hlt hgt
  · have := hhalf.mpr hlt
    rw [sub_add_cancel_left, abs_neg, abs_of_nonneg h0]
    exact ⟨this.le, fun heq => absurd heq this.ne⟩
  · have := hhalf'.mpr hgt
    push_cast
    rw [add_sub_add_left_eq_sub, abs_of_pos (by linarith)]
    exact ⟨by linarith, fun heq => absurd heq (by linarith)⟩
  · have hle := not_lt.mp (mt hhalf.mp hlt)
    have hge := not_lt.mp (mt hhalf'.mp hgt)
    have hmid : (r : ℝ) / den = 1 / 2 := le_antisymm hge hle
    rw [hmid]
    refine ⟨?_, fun _ => by omega⟩
    rcases Nat.mod_two_eq_zero_or_one k with h | h <;> rw [h] <;> push_cast <;> rw [abs_le] <;> constructor <;> linarith

/-- The exponent `rn32` takes makes the significand 24 bits long, or is the least one. -/
theorem bitLog_window {q : Nat} (hq : q < 2 ^ 512) :
    (bitLog q - 23 = 0 ∨ 2 ^ 23 * 2 ^ (bitLog q - 23) ≤ q) ∧ q < 2 ^ 24 * 2 ^ (bitLog q - 23) := by
  rcases Nat.eq_zero_or_pos q with rfl | hpos
  · exact ⟨.inl (by rw [bitLog_zero]), by positivity⟩
  have hlt : q < 2 ^ 1024 := hq.trans (pow_lt_pow_right₀ one_lt_two (by omega))
  obtain ⟨hle, hgt⟩ := bitLog_spec q hpos hlt
  rw [← pow_add, ← pow_add]
  constructor
  · by_cases h : bitLog q ≤ 23
    · exact .inl (by omega)
    · exact .inr (by rwa [show 23 + (bitLog q - 23) = bitLog q by omega])
  · exact hgt.trans_le (Nat.pow_le_pow_right (by norm_num) (by omega))

/-- `rn32` takes the nearest significand of its magnitude. -/
theorem isNearest_rn32 {num den : Nat} (hden : 0 < den) (hq : num / den < 2 ^ 512) :
    IsNearest (num / den) (roundHalfEven num (den <<< (bitLog (num / den) - 23))) (bitLog (num / den) - 23) := by
  obtain ⟨hlow, hhigh⟩ := bitLog_window hq
  clear hq
  generalize bitLog (num / den) - 23 = e at *
  rw [Nat.shiftLeft_eq]
  have hd : (0 : ℝ) < den := by exact_mod_cast hden
  have hU : (0 : ℝ) < 2 ^ e := by positivity
  obtain ⟨hnear, heven⟩ := roundHalfEven_spec num (Nat.mul_pos hden (Nat.two_pow_pos e))
  generalize roundHalfEven num (den * 2 ^ e) = sig at *
  have hscale : |(sig : ℝ) * 2 ^ e - num / den| = |(sig : ℝ) - num / (den * 2 ^ e : ℕ)| * 2 ^ e := by
    rw [← abs_of_pos hU, ← abs_mul, abs_of_pos hU]
    push_cast
    congr 1
    field_simp
  refine ⟨?_, fun heq => heven ?_, hlow.imp id fun h => ?_, ?_⟩
  · rw [hscale]; nlinarith
  · rw [hscale] at heq
    exact mul_right_cancel₀ hU.ne' (by rw [heq]; ring)
  · rw [le_div_iff₀ hd]; exact_mod_cast (Nat.le_div_iff_mul_le hden).mp h
  · rw [div_lt_iff₀ hd]; exact_mod_cast (Nat.div_lt_iff_lt_mul hden).mp hhigh

theorem rn32_of_large {num den : Nat} (hq : 2 ^ 512 ≤ num / den) (neg : Bool) : rn32 neg num den = .inf neg := by
  have := le_bitLog hq
  rw [rn32_eq_carryFl, carryFl_of_le (by omega)]

theorem rn32_roundsTo_magnitude (num : Nat) {den : Nat} (hden : 0 < den) :
    RoundsTo ((num : ℝ) / den / 2 ^ 149) (rn32 false num den) := by
  have hpos : (0 : ℝ) ≤ num / den := by positivity
  rcases Nat.lt_or_ge (num / den) (2 ^ 512) with hq | hq
  · exact (isNearest_rn32 hden hq).roundsTo hpos
  · rw [rn32_of_large hq]
    have hbound : 2 ^ 128 * 2 ^ 149 ≤ num / den := by
      rw [← pow_add]
      exact (pow_le_pow_right₀ one_le_two (by decide)).trans hq
    clear hq
    refine roundsTo_inf ?_
    rw [le_div_iff₀ (by positivity)]
    calc ((2 : ℝ) ^ 128 - 2 ^ 103) * 2 ^ 149 ≤ 2 ^ 128 * 2 ^ 149 := by norm_num
      _ ≤ ((num / den : ℕ) : ℝ) := by exact_mod_cast hbound
      _ ≤ num / den := Nat.cast_div_le

theorem rn32_not (neg : Bool) (num den : Nat) : rn32 (!neg) num den = fneg (rn32 neg num den) := carryFl_not _ _ _

/-- `rn32` rounds the real of its magnitude and sign to nearest even (rule R101). -/
theorem rn32_roundsTo (s : Bool) (num : Nat) {den : Nat} (hden : 0 < den) :
    RoundsTo (signFactor s * (num / den / 2 ^ 149)) (rn32 s num den) := by
  have h := rn32_roundsTo_magnitude num hden
  cases s with
  | false => rwa [signFactor_false, one_mul]
  | true => rw [signFactor_true, neg_one_mul]; exact rn32_not false num den ▸ roundsTo_neg h

theorem roundHalfEven_zero {den : Nat} (hden : 0 < den) : roundHalfEven 0 den = 0 := by
  have hb : Nat.blt 0 den = true := by simpa using hden
  simp [roundHalfEven, hb]

/-- A zero takes the given sign (rule R101). -/
theorem rn32_zero (neg : Bool) {den : Nat} (hden : 0 < den) : rn32 neg 0 den = .fin neg 0 0 := by
  rw [rn32_eq_carryFl, Nat.zero_div, bitLog_zero, roundHalfEven_zero (by simpa using hden)]
  rfl

/-- Settles O46: `rn32` takes the nearest significand, which packs to the nearest value. -/
theorem roundingIsNearestEven : Obligations.RoundingIsNearestEven := by
  intro num den hden
  exact ⟨rn32_roundsTo_magnitude num hden, by simpa using rn32_roundsTo true num hden, rn32_zero false hden⟩

end Sys2Proof.Machine
end

section
/-! SUPPORT. The primitive operations on finite values, each as `rn32` of an exact result (rules R102 to R104), and the
sign and the zeros of what `rn32` gives. -/

namespace Sys2Proof.Machine

/-! ### Signs and zeros of a rounded result -/

theorem packFl_eq_fin {neg u : Bool} {sig exp m e : Nat} (h : packFl neg sig exp = .fin u m e) :
    u = neg ∧ m = sig := by
  rcases Nat.lt_or_ge exp 254 with hexp | hexp
  · rw [packFl_of_lt hexp] at h
    cases h
    exact ⟨rfl, rfl⟩
  · rw [packFl_of_le hexp] at h
    cases h

/-- A finite packed result has the given sign, and its significand is the given one or that of a carry. -/
theorem carryFl_eq_fin {neg u : Bool} {sig exp m e : Nat} (h : carryFl neg sig exp = .fin u m e) :
    u = neg ∧ (m = sig ∨ m = 2 ^ 23) := by
  by_cases hsig : sig = 2 ^ 24
  · rw [hsig, carryFl_of_carry] at h
    exact (packFl_eq_fin h).imp_right .inr
  · rw [carryFl_of_ne hsig] at h
    exact (packFl_eq_fin h).imp_right .inl

/-- A finite rounded result has the given sign (rules R101 to R104). -/
theorem rn32_sign {neg u : Bool} {num den m e : Nat} (h : rn32 neg num den = .fin u m e) : u = neg :=
  (carryFl_eq_fin h).1

theorem roundHalfEven_one (num : Nat) : roundHalfEven num 1 = num := by
  simp only [roundHalfEven, Nat.mod_one, Nat.div_one]
  rfl

/-- A positive whole number of units never rounds to a zero (rule R103). -/
theorem rn32_one_ne_zero {num : Nat} (hpos : 0 < num) (neg u : Bool) (e : Nat) : rn32 neg num 1 ≠ .fin u 0 e := by
  intro h
  rcases Nat.lt_or_ge (num / 1) (2 ^ 512) with hq | hq
  · have hnear := isNearest_rn32 one_pos hq
    rw [rn32_eq_carryFl] at h
    generalize bitLog (num / 1) - 23 = exp at *
    have hsig : 0 < roundHalfEven num (1 <<< exp) := by
      rcases Nat.eq_zero_or_pos exp with rfl | hexp
      · rwa [Nat.shiftLeft_zero, roundHalfEven_one]
      · exact (Nat.two_pow_pos 23).trans_le (hnear.le_sig (by omega))
    rcases (carryFl_eq_fin h).2 with h0 | h0
    · exact hsig.ne h0
    · exact absurd h0 (by norm_num)
  · rw [rn32_of_large hq] at h
    cases h

/-! ### The operations on finite values -/

theorem fmul_fin (s t : Bool) (m e n f : Nat) :
    fmul (.fin s m e) (.fin t n f) = rn32 (s ^^ t) (m * 2 ^ e * (n * 2 ^ f)) (2 ^ 149) := by
  have h : m * n * 2 ^ (e + f) = m * 2 ^ e * (n * 2 ^ f) := by ring
  rw [fmul, Nat.shiftLeft_eq, Nat.one_shiftLeft, h]

theorem fdiv_fin (s : Bool) (m e : Nat) {n : Nat} (hn : n ≠ 0) (f : Nat) :
    fdiv (.fin s m e) (.fin false n f) = rn32 s (m * 2 ^ e * 2 ^ 149) (n * 2 ^ f) := by
  have hb : (n == 0) = false := by simpa using hn
  rw [fdiv, hb, cond_false, Nat.shiftLeft_eq, Nat.shiftLeft_eq, Nat.shiftLeft_eq]

/-- Operands of one sign add their magnitudes. -/
theorem fadd_fin_same (s : Bool) (m e n f : Nat) :
    fadd (.fin s m e) (.fin s n f) = rn32 s (m * 2 ^ e + n * 2 ^ f) 1 := by
  simp [fadd, Nat.shiftLeft_eq]

/-- Operands of opposite signs subtract the smaller magnitude from the larger, which gives the sign; equal ones give
+0 (rule R103). -/
theorem fadd_fin_opposite (s : Bool) (m e n f : Nat) :
    fadd (.fin s m e) (.fin (!s) n f) =
      if m * 2 ^ e = n * 2 ^ f then Fl.zero
      else if n * 2 ^ f < m * 2 ^ e then rn32 s (m * 2 ^ e - n * 2 ^ f) 1
      else rn32 (!s) (n * 2 ^ f - m * 2 ^ e) 1 := by
  simp only [fadd, Nat.shiftLeft_eq, Bool.xor_not_self, Bool.cond_eq_ite, if_true, beq_iff_eq, Nat.blt_eq]

/-- What `fadd` of two finite values is: the zero of an exact cancellation, or the rounding of a positive number of
units under a sign, which is the exact sum. -/
theorem fadd_fin_cases (s : Bool) (m e : Nat) (t : Bool) (n f : Nat) :
    ((Fl.fin s m e).toReal + (Fl.fin t n f).toReal = 0 ∧ fadd (.fin s m e) (.fin t n f) = .fin (s && t) 0 0) ∨
    ∃ (u : Bool) (num : ℕ), 0 < num ∧
      (Fl.fin s m e).toReal + (Fl.fin t n f).toReal = signFactor u * (num / (1 : ℕ) / 2 ^ 149) ∧
      fadd (.fin s m e) (.fin t n f) = rn32 u num 1 := by
  have hsum : (Fl.fin s m e).toReal + (Fl.fin t n f).toReal =
      (signFactor s * (m * 2 ^ e : ℕ) + signFactor t * (n * 2 ^ f : ℕ)) / 2 ^ 149 := by
    rw [toReal_fin, toReal_fin, add_div]
  rw [hsum]
  rcases Bool.eq_or_eq_not t s with rfl | rfl
  · rw [fadd_fin_same]
    generalize m * 2 ^ e = x
    generalize n * 2 ^ f = y
    rcases Nat.eq_zero_or_pos (x + y) with h0 | hpos
    · obtain ⟨rfl, rfl⟩ := Nat.add_eq_zero_iff.mp h0
      exact .inl ⟨by simp, by rw [Bool.and_self]; exact rn32_zero t one_pos⟩
    · exact .inr ⟨t, x + y, hpos, by push_cast; ring, rfl⟩
  · rw [fadd_fin_opposite, signFactor_not]
    generalize m * 2 ^ e = x
    generalize n * 2 ^ f = y
    split_ifs with heq hlt
    · subst heq
      exact .inl ⟨by ring, by cases s <;> rfl⟩
    · refine .inr ⟨s, x - y, by omega, ?_, rfl⟩
      rw [Nat.cast_sub hlt.le, Nat.cast_one]; ring
    · refine .inr ⟨!s, y - x, by omega, ?_, rfl⟩
      rw [signFactor_not, Nat.cast_sub (by omega), Nat.cast_one]; ring

theorem fmul_nan_right (a : Fl) : fmul a .nan = .nan := by cases a <;> rfl

theorem fadd_nan_right (a : Fl) : fadd a .nan = .nan := by cases a <;> rfl

/-- An infinity operand gives an infinity unless the other operand is a zero (rule R102). -/
theorem fmul_inf_fin (s t : Bool) {m : Nat} (hm : m ≠ 0) (e : Nat) :
    fmul (.inf s) (.fin t m e) = .inf (s ^^ t) ∧ fmul (.fin t m e) (.inf s) = .inf (s ^^ t) := by
  have hb : (m == 0) = false := by simpa using hm
  refine ⟨?_, ?_⟩ <;> simp only [fmul, hb, cond_false, Bool.xor_comm]

/-- Settles O47: a finite product is `rn32` of the exact product of the magnitudes. -/
theorem fmulFollowsRule : Obligations.FmulFollowsRule := by
  refine ⟨fun a => ⟨rfl, fmul_nan_right a⟩, fun _ _ _ => ⟨rfl, rfl⟩, fun _ _ => rfl,
    fun s t m e hm => fmul_inf_fin s t hm e, fun s m e t n f _ _ => ?_⟩
  have hprod : (Fl.fin s m e).toReal * (Fl.fin t n f).toReal =
      signFactor (s ^^ t) * ((m * 2 ^ e * (n * 2 ^ f) : ℕ) / (2 ^ 149 : ℕ) / 2 ^ 149) := by
    rw [toReal_fin, toReal_fin, signFactor_xor]; push_cast; ring
  rw [hprod, fmul_fin]
  exact ⟨rn32_roundsTo _ _ (Nat.two_pow_pos 149), fun u h => rn32_sign h⟩

theorem fadd_inf_inf (s t : Bool) : fadd (.inf s) (.inf t) = if s = t then .inf s else .nan := by
  cases s <;> cases t <;> rfl

theorem fadd_fin_roundsTo (s : Bool) (m e : Nat) (t : Bool) (n f : Nat) :
    RoundsTo ((Fl.fin s m e).toReal + (Fl.fin t n f).toReal) (fadd (.fin s m e) (.fin t n f)) := by
  rcases fadd_fin_cases s m e t n f with ⟨hsum, hadd⟩ | ⟨u, num, -, hsum, hadd⟩
  · rw [hsum, hadd, ← rn32_zero _ one_pos]
    simpa using rn32_roundsTo (s && t) 0 one_pos
  · rw [hsum, hadd]
    exact rn32_roundsTo u num one_pos

/-- Settles O48: a finite sum is exactly zero, or `rn32` of a positive number of units, which is never a zero. -/
theorem faddFollowsRule : Obligations.FaddFollowsRule := by
  refine ⟨fun a => ⟨rfl, fadd_nan_right a⟩, fadd_inf_inf, fun _ _ _ _ => ⟨rfl, rfl⟩, fun s m e t n f _ _ => ?_,
    fun _ _ => rfl⟩
  refine ⟨fadd_fin_roundsTo s m e t n f, ?_⟩
  rcases fadd_fin_cases s m e t n f with ⟨hsum, hadd⟩ | ⟨u, num, hpos, hsum, hadd⟩
  · exact ⟨fun _ => hadd, fun hne => absurd hsum hne⟩
  · have hnum : (0 : ℝ) < num := by exact_mod_cast hpos
    have hne : signFactor u * (num / (1 : ℕ) / 2 ^ 149) ≠ 0 := mul_ne_zero (signFactor_ne_zero u) (by positivity)
    rw [hsum, hadd]
    exact ⟨fun h0 => absurd h0 hne, fun _ v g => rn32_one_ne_zero hpos u v g⟩

/-- Settles O49: a finite quotient is `rn32` of the exact quotient of the magnitudes. -/
theorem fdivRoundsQuotient : Obligations.FdivRoundsQuotient := by
  refine fun n f _ hn => ⟨rfl, fun _ => rfl, fun s m e _ => ?_⟩
  have hn' : (n : ℝ) ≠ 0 := by exact_mod_cast hn
  have hquot : (Fl.fin s m e).toReal / (Fl.fin false n f).toReal =
      signFactor s * ((m * 2 ^ e * 2 ^ 149 : ℕ) / (n * 2 ^ f : ℕ) / 2 ^ 149) := by
    rw [toReal_fin, toReal_fin, signFactor_false]; push_cast; field_simp; norm_num
  rw [hquot, fdiv_fin s m e hn]
  exact ⟨rn32_roundsTo s _ (Nat.mul_pos (Nat.pos_of_ne_zero hn) (Nat.two_pow_pos f)), fun u h => rn32_sign h⟩

end Sys2Proof.Machine
end

section
/-! SUPPORT. The square root (rule R105): the root found bit by bit, why one bit below it decides the rounding, and the
derived sine (rules R135, R140). -/

namespace Sys2Proof.Machine

/-! ### The integer root -/

/-- The search keeps the root of n between r and r + 2^k, and ends at k = 0. -/
theorem sqrtBits_spec (n k r : Nat) (hle : r * r ≤ n) (hlt : n < (r + 2 ^ k) * (r + 2 ^ k)) :
    sqrtBits n k r * sqrtBits n k r ≤ n ∧ n < (sqrtBits n k r + 1) * (sqrtBits n k r + 1) := by
  induction k generalizing r with
  | zero => exact ⟨hle, hlt⟩
  | succ k ih =>
    rw [sqrtBits, Nat.one_shiftLeft, Bool.cond_eq_ite]
    split_ifs with hbit
    · refine ih _ (Nat.le_of_ble_eq_true hbit) ?_
      rwa [Nat.add_assoc, ← Nat.two_mul, ← Nat.pow_succ']
    · exact ih _ hle (Nat.lt_of_not_le fun h => hbit (Nat.ble_eq_true_of_le h))

theorem natSqrt_eq {n : Nat} (hpos : 0 < n) (hlt : n < 2 ^ 1024) : natSqrt n = n.sqrt := by
  have hbits : n < (0 + 2 ^ (bitLog n / 2 + 1)) * (0 + 2 ^ (bitLog n / 2 + 1)) := by
    rw [Nat.zero_add, ← pow_add]
    exact (bitLog_spec n hpos hlt).2.trans_le (Nat.pow_le_pow_right two_pos (by omega))
  exact Nat.eq_sqrt.mpr (sqrtBits_spec n _ 0 (Nat.zero_le n) hbits)

/-! ### One bit below the integer part decides the rounding -/

/-- Every boundary between two roundings at an exponent above 0 is a whole number of units, so a magnitude strictly
between r and r + 1 rounds as r + 1/2 does. -/
theorem IsNearest.of_halfway {r sig exp : Nat} (h : IsNearest (r + 1 / 2 : ℝ) sig exp) (hexp : exp ≠ 0) {R : ℝ}
    (hlo : (r : ℝ) < R) (hhi : R < r + 1) : IsNearest R sig exp := by
  obtain ⟨e, rfl⟩ : ∃ e, exp = e + 1 := ⟨exp - 1, by omega⟩
  have hU : (2 : ℝ) ^ (e + 1) / 2 = 2 ^ e := by rw [pow_succ]; ring
  -- a whole number at most r + 1/2 is at most r, and one that is at least r + 1/2 is at least r + 1
  have hbelow {v : ℝ} (hv : ∃ a : ℤ, (a : ℝ) = v) (hle : v ≤ r + 1 / 2) : v ≤ r := by
    obtain ⟨a, rfl⟩ := hv
    have hlt : (a : ℝ) < r + 1 := by linarith
    exact_mod_cast Int.lt_add_one_iff.mp (by exact_mod_cast hlt)
  have habove {v : ℝ} (hv : ∃ a : ℤ, (a : ℝ) = v) (hge : (r : ℝ) + 1 / 2 ≤ v) : (r : ℝ) + 1 ≤ v := by
    obtain ⟨a, rfl⟩ := hv
    have hlt : (r : ℝ) < a := by linarith
    have hlt' : (r : ℤ) < a := by exact_mod_cast hlt
    exact_mod_cast Int.add_one_le_iff.mpr hlt'
  obtain ⟨hle, hge⟩ := abs_le.mp h.near
  rw [hU] at hle hge
  have hbot : (sig : ℝ) * 2 ^ (e + 1) - 2 ^ e ≤ r :=
    hbelow ⟨sig * 2 ^ (e + 1) - 2 ^ e, by push_cast; rfl⟩ (by linarith)
  have htop : (r : ℝ) + 1 ≤ sig * 2 ^ (e + 1) + 2 ^ e :=
    habove ⟨sig * 2 ^ (e + 1) + 2 ^ e, by push_cast; rfl⟩ (by linarith)
  have hstrict : |(sig : ℝ) * 2 ^ (e + 1) - R| < 2 ^ (e + 1) / 2 := by
    rw [hU, abs_lt]
    constructor <;> linarith
  have hlow := hbelow ⟨2 ^ 23 * 2 ^ (e + 1), by norm_num⟩ (h.low.resolve_left hexp)
  have hhigh := habove ⟨2 ^ 24 * 2 ^ (e + 1), by norm_num⟩ h.high.le
  exact ⟨hstrict.le, fun heq => absurd heq hstrict.ne, .inr (hlow.trans hlo.le), hhi.trans_le hhigh⟩

/-! ### `fsqrt` -/

theorem fsqrt_zero (s : Bool) (e : Nat) : fsqrt (.fin s 0 e) = .fin s 0 0 := rfl

theorem fsqrt_negative {m : Nat} (hm : m ≠ 0) (e : Nat) : fsqrt (.fin true m e) = .nan := by
  have hb : (m == 0) = false := by simpa using hm
  rw [fsqrt, hb, cond_false, cond_true]

/-- Twice the root of n, with the bit below the integer root set when the root is not exact. -/
def doubledRoot (n : Nat) : Nat := 2 * n.sqrt + if n.sqrt * n.sqrt = n then 0 else 1

/-- The root of a positive value is the root of `m * 2^(e + 149)` in units, to half a unit (rule R105). -/
theorem fsqrt_positive {m e : Nat} (hm : m ≠ 0) (hlt : m * 2 ^ (e + 149) < 2 ^ 1024) :
    fsqrt (.fin false m e) = rn32 false (doubledRoot (m * 2 ^ (e + 149))) 2 := by
  have hb : (m == 0) = false := by simpa using hm
  have hpos : 0 < m * 2 ^ (e + 149) := Nat.mul_pos (Nat.pos_of_ne_zero hm) (Nat.two_pow_pos _)
  simp only [fsqrt, doubledRoot, hb, Nat.shiftLeft_eq, natSqrt_eq hpos hlt, Bool.cond_eq_ite, beq_iff_eq,
    Bool.false_eq_true, if_false]

/-- The doubled root rounds as the real root does: the integer root is so long that the exponent `rn32` takes is above
0. -/
theorem rn32_sqrt_roundsTo {n : Nat} (hlo : 2 ^ 149 ≤ n) (hhi : n < 2 ^ 1024) :
    RoundsTo (Real.sqrt n / 2 ^ 149) (rn32 false (doubledRoot n) 2) := by
  unfold doubledRoot
  split_ifs with hexact
  · have hroot : Real.sqrt n = n.sqrt := by
      rw [← Nat.cast_inj (R := ℝ)] at hexact
      rw [← hexact, Nat.cast_mul, Real.sqrt_mul_self (Nat.cast_nonneg _)]
    have h := rn32_roundsTo_magnitude (2 * n.sqrt + 0) two_pos
    rw [hroot]
    convert h using 2
    push_cast; ring
  · have hq : (2 * n.sqrt + 1) / 2 = n.sqrt := by omega
    have hr512 : n.sqrt < 2 ^ 512 := Nat.sqrt_lt.mpr (by rwa [← pow_add])
    have hr24 : 2 ^ 24 ≤ n.sqrt := Nat.le_sqrt.mpr (le_trans (by norm_num) hlo)
    have hnear := isNearest_rn32 (num := 2 * n.sqrt + 1) two_pos (by rwa [hq])
    have hexp : bitLog n.sqrt - 23 ≠ 0 := fun h0 => by
      have := (bitLog_window hr512).2
      rw [h0] at this
      omega
    rw [rn32_eq_carryFl]
    rw [hq] at hnear ⊢
    refine IsNearest.roundsTo (IsNearest.of_halfway (r := n.sqrt) ?_ hexp ?_ ?_) (Real.sqrt_nonneg _)
    · convert hnear using 1
      push_cast; ring
    · refine Real.lt_sqrt_of_sq_lt ?_
      have := lt_of_le_of_ne (Nat.sqrt_le n) hexact
      rw [pow_two]; exact_mod_cast this
    · rw [Real.sqrt_lt' (by positivity)]
      have := Nat.lt_succ_sqrt n
      rw [pow_two]; exact_mod_cast this

theorem fsqrt_roundsTo {m e : Nat} (hwf : (Fl.fin false m e).wf = true) :
    RoundsTo (Real.sqrt (Fl.fin false m e).toReal) (fsqrt (.fin false m e)) := by
  obtain ⟨hm, -, he⟩ := (fin_wf_iff _ _ _).mp hwf
  rcases eq_or_ne m 0 with rfl | hm0
  · have h := rn32_roundsTo_magnitude 0 one_pos
    rw [rn32_zero false one_pos] at h
    simpa [fsqrt_zero, toReal_fin] using h
  · have hlo : 2 ^ 149 ≤ m * 2 ^ (e + 149) := by
      rw [pow_add, ← mul_assoc]
      exact Nat.le_mul_of_pos_left _ (Nat.mul_pos (Nat.pos_of_ne_zero hm0) (Nat.two_pow_pos e))
    have hhi : m * 2 ^ (e + 149) < 2 ^ 1024 := calc
      m * 2 ^ (e + 149) < 2 ^ 24 * 2 ^ (e + 149) := Nat.mul_lt_mul_of_pos_right hm (Nat.two_pow_pos _)
      _ = 2 ^ (24 + (e + 149)) := (pow_add ..).symm
      _ ≤ 2 ^ 1024 := pow_le_pow_right₀ one_le_two (by omega)
    have hroot : Real.sqrt (Fl.fin false m e).toReal = Real.sqrt (m * 2 ^ (e + 149) : ℕ) / 2 ^ 149 := by
      have hvalue : (Fl.fin false m e).toReal = (m * 2 ^ (e + 149) : ℕ) / (2 ^ 149) ^ 2 := by
        rw [toReal_fin, signFactor_false, pow_add]; push_cast; ring
      rw [hvalue, Real.sqrt_div (by positivity), Real.sqrt_sq (by positivity)]
    rw [hroot, fsqrt_positive hm0 hhi]
    exact rn32_sqrt_roundsTo hlo hhi

/-- Settles O50: the root of a positive value is `rn32` of the integer root with a bit below it, which rounds as the
real root does. -/
theorem fsqrtRoundsRoot : Obligations.FsqrtRoundsRoot :=
  ⟨rfl, rfl, rfl, fun s => fsqrt_zero s 0, fun _ e hm => fsqrt_negative hm e, fun _ _ h => fsqrt_roundsTo h⟩

/-! ### The derived sine -/

/-- A real from 0 to 1 rounds to a finite value of at most 1, since 1 itself is a finite value. -/
theorem RoundsTo.le_one {r : ℝ} {x : Fl} (h : RoundsTo r x) (h0 : 0 ≤ r) (h1 : r ≤ 1) :
    ∃ s m e, x = .fin s m e ∧ x.toReal ≤ 1 := by
  obtain ⟨s, m, e, hx, -, hnear⟩ := h.2.2 (by rw [abs_of_nonneg h0]; norm_num; linarith)
  have hone : Fl.one.toReal = 1 := by rw [Fl.one, toReal_fin]; norm_num
  have hle := (hnear Fl.one ⟨by decide, false, _, _, rfl⟩).1
  rw [hone, abs_of_nonneg (sub_nonneg.mpr h1)] at hle
  exact ⟨s, m, e, hx, by linarith [le_abs_self (x.toReal - r)]⟩

theorem toReal_le_one_iff (m e : Nat) : (Fl.fin false m e).toReal ≤ 1 ↔ m * 2 ^ e ≤ 2 ^ 149 := by
  rw [toReal_fin, signFactor_false, one_mul, div_le_one (by positivity)]
  exact_mod_cast Iff.rfl

/-- A magnitude of at most 1 rounds to one of at most 1. -/
theorem rn32_le_one {num den : Nat} (hden : 0 < den) (hle : num ≤ 2 ^ 149 * den) :
    ∃ m e, rn32 false num den = .fin false m e ∧ m * 2 ^ e ≤ 2 ^ 149 := by
  have hle' : (num : ℝ) ≤ 2 ^ 149 * den := by exact_mod_cast hle
  have hd : (0 : ℝ) < den := by exact_mod_cast hden
  obtain ⟨s, m, e, hx, h1⟩ := (rn32_roundsTo_magnitude num hden).le_one (by positivity)
    (by rw [div_div, div_le_one (by positivity)]; linarith)
  obtain rfl := rn32_sign hx
  rw [hx] at h1
  exact ⟨m, e, hx, (toReal_le_one_iff m e).mp h1⟩

theorem fsqrt_sign {u : Bool} {m e m' e' : Nat} (h : fsqrt (.fin false m e) = .fin u m' e') : u = false := by
  unfold fsqrt at h
  simp only [Bool.cond_eq_ite] at h
  split_ifs at h with hm
  · cases h; rfl
  · exact rn32_sign h
  · exact rn32_sign h

/-- The root of a value from 0 to 1 is a finite value of positive sign. -/
theorem fsqrt_of_le_one {m e : Nat} (hwf : (Fl.fin false m e).wf = true) (hle : m * 2 ^ e ≤ 2 ^ 149) :
    ∃ m' e', fsqrt (.fin false m e) = .fin false m' e' := by
  obtain ⟨s, m', e', hx, -⟩ := (fsqrt_roundsTo hwf).le_one (Real.sqrt_nonneg _)
    (Real.sqrt_le_one.mpr ((toReal_le_one_iff m e).mpr hle))
  obtain rfl := fsqrt_sign hx
  exact ⟨m', e', hx⟩

/-- The square of a cosine of magnitude at most 1 is a value from 0 to 1. -/
theorem fmul_self_le_one {s : Bool} {m e : Nat} (hle : m * 2 ^ e ≤ 2 ^ 149) :
    ∃ p q, fmul (.fin s m e) (.fin s m e) = .fin false p q ∧ p * 2 ^ q ≤ 2 ^ 149 := by
  rw [fmul_fin, Bool.xor_self]
  exact rn32_le_one (Nat.two_pow_pos 149) (Nat.mul_le_mul hle hle)

/-- 1 less a value from 0 to 1 is a value from 0 to 1. -/
theorem fsub_one_le_one {p q : Nat} (hle : p * 2 ^ q ≤ 2 ^ 149) :
    ∃ m e, fsub Fl.one (.fin false p q) = .fin false m e ∧ m * 2 ^ e ≤ 2 ^ 149 := by
  have hsub : fsub Fl.one (.fin false p q) = fadd (.fin false (2 ^ 23) 126) (.fin (!false) p q) := rfl
  have hone : 2 ^ 23 * 2 ^ 126 = 2 ^ 149 := by norm_num
  rw [hsub, fadd_fin_opposite, hone]
  split_ifs with heq hlt
  · exact ⟨0, 0, rfl, by norm_num⟩
  · exact rn32_le_one one_pos (by omega)
  · omega

/-- Settles O55: the square of such a cosine is from 0 to 1, so 1 less it is too, and the root of that is finite and not
negative. -/
theorem derivedSineNeverNegative : Obligations.DerivedSineNeverNegative := by
  intro neg sig exp _ hle
  obtain ⟨p, q, hmul, hp⟩ := fmul_self_le_one (s := neg) hle
  obtain ⟨m, e, hsub, hm⟩ := fsub_one_le_one hp
  have hwf : (Fl.fin false m e).wf = true := hsub ▸ fsub_wf _ _
  rw [derivedSin, hmul, hsub]
  exact fsqrt_of_le_one hwf hm

end Sys2Proof.Machine
end

section
/-! SUPPORT. Words and values (rules R100, R107): the value of a word by its sign, exponent and fraction, the word of a
value, and what is stored for a NaN. -/

namespace Sys2Proof.Machine

/-! ### The fields of a word -/

theorem getLsbD_sign (w : Word) : w.getLsbD 31 = decide (2 ^ 31 ≤ w.toNat) := by
  have hlt : w.toNat < 2 ^ 32 := w.isLt
  rw [BitVec.getLsbD, Nat.testBit_eq_decide_div_mod_eq]
  exact decide_eq_decide.mpr (by omega)

/-- A word is its sign bit, its exponent and its fraction. -/
theorem toNat_eq_fields (w : Word) :
    w.toNat = signBit (w.getLsbD 31) + w.toNat / 2 ^ 23 % 256 * 2 ^ 23 + w.toNat % 2 ^ 23 := by
  have hlt : w.toNat < 2 ^ 32 := w.isLt
  rw [getLsbD_sign, signBit_eq]
  split_ifs with h <;> simp only [decide_eq_true_eq] at h <;> omega

/-- The value of a word by its fields (rule R100). -/
theorem ofWord_fields (w : Word) :
    Fl.ofWord w =
      if w.toNat / 2 ^ 23 % 256 = 255 then
        (if w.toNat % 2 ^ 23 = 0 then .inf (w.getLsbD 31) else .nan)
      else if w.toNat / 2 ^ 23 % 256 = 0 then .fin (w.getLsbD 31) (w.toNat % 2 ^ 23) 0
      else .fin (w.getLsbD 31) (2 ^ 23 + w.toNat % 2 ^ 23) (w.toNat / 2 ^ 23 % 256 - 1) := by
  simp only [ofWord_eq, getLsbD_sign, Nat.reducePow]

theorem ofWord_eq_nan_iff (w : Word) :
    Fl.ofWord w = .nan ↔ w.toNat / 2 ^ 23 % 256 = 255 ∧ w.toNat % 2 ^ 23 ≠ 0 := by
  rw [ofWord_fields]
  split_ifs <;> simp_all

theorem ofNat_eq_of_toNat {w : Word} {n : Nat} (h : w.toNat = n) : BitVec.ofNat 32 n = w := by
  rw [← h, BitVec.ofNat_toNat, BitVec.setWidth_eq]

/-- A word whose value is no NaN is the word of its value (rule R100). -/
theorem toWord_ofWord {w : Word} (h : Fl.ofWord w ≠ .nan) (draw : Word) : (Fl.ofWord w).toWord draw = w := by
  have hw := toNat_eq_fields w
  rw [Ne, ofWord_eq_nan_iff] at h
  rw [ofWord_fields]
  generalize w.getLsbD 31 = neg at *
  generalize hfrac : w.toNat % 2 ^ 23 = f at *
  generalize hexp : w.toNat / 2 ^ 23 % 256 = e at *
  clear hfrac hexp
  split_ifs with hinf hzero hsub
  · exact ofNat_eq_of_toNat (by rw [hw, hinf, hzero]; rfl)
  · exact absurd ⟨hinf, hzero⟩ h
  · exact ofNat_eq_of_toNat (by rw [hw, hsub]; rfl)
  · obtain ⟨k, rfl⟩ := Nat.exists_eq_add_one_of_ne_zero hsub
    exact ofNat_eq_of_toNat (by rw [hw, Nat.add_sub_cancel]; ring)

/-! ### The subnormal and normal values -/

/-- The value of a zero or subnormal word of fraction f (rule R100). -/
theorem toReal_subnormal (s : Bool) (f : Nat) :
    (Fl.fin s f 0).toReal = signFactor s * ((2 : ℝ) ^ (-126 : ℤ) * ((f : ℝ) / 2 ^ 23)) := by
  rw [toReal_fin]
  norm_num
  ring

/-- The value of a normal word of exponent e and fraction f (rule R100). -/
theorem toReal_normal (s : Bool) {e : Nat} (he : e ≠ 0) (f : Nat) :
    (Fl.fin s (2 ^ 23 + f) (e - 1)).toReal =
      signFactor s * ((2 : ℝ) ^ ((e : ℤ) - 127) * (1 + (f : ℝ) / 2 ^ 23)) := by
  obtain ⟨k, rfl⟩ : ∃ k, e = k + 1 := ⟨e - 1, by omega⟩
  have hpow : (2 : ℝ) ^ (((k + 1 : ℕ) : ℤ) - 127) = 2 ^ k / 2 ^ 126 := by
    rw [show ((k + 1 : ℕ) : ℤ) - 127 = (k : ℤ) - (126 : ℕ) by push_cast; ring, zpow_sub₀ two_ne_zero, zpow_natCast,
      zpow_natCast]
  rw [toReal_fin, hpow, Nat.add_sub_cancel]
  push_cast
  ring

/-- Settles O44: the value of a word by its fields, and the word again from the value. -/
theorem wordsAndValuesAgree : Obligations.WordsAndValuesAgree := by
  refine fun w => ⟨ofWord_eq_nan_iff w, fun h draw => toWord_ofWord h draw, fun hexp hfrac => ?_, fun hexp => ?_⟩
  · rw [ofWord_fields, if_pos hexp, if_pos hfrac]
  · rw [ofWord_fields, if_neg hexp.ne]
    rcases eq_or_ne (w.toNat / 2 ^ 23 % 256) 0 with hsub | hsub
    · rw [if_pos hsub, if_pos hsub]
      exact toReal_subnormal _ _
    · rw [if_neg hsub, if_neg hsub]
      exact toReal_normal _ hsub _

/-! ### What is stored for a NaN -/

theorem toNat_nanWord (p : Bool × Fin 8388607) : (nanWord p).toNat = signBit p.1 + 255 * 2 ^ 23 + (p.2 + 1) := by
  obtain ⟨neg, f, hf⟩ := p
  have hfrac : (BitVec.ofNat 23 (f + 1)).toNat = f + 1 := by
    rw [BitVec.toNat_ofNat]; exact Nat.mod_eq_of_lt (by omega)
  rw [nanWord, BitVec.toNat_append, hfrac, ← Nat.shiftLeft_add_eq_or_of_lt (by omega)]
  have htop : (BitVec.ofBool neg ++ 0xFF#8).toNat <<< 23 = signBit neg + 255 * 2 ^ 23 := by cases neg <;> rfl
  rw [htop]

/-- Every NaN pattern is one that a NaN can be stored as (rule R107). -/
theorem exists_nanWord {w : Word} (h : Fl.ofWord w = .nan) : ∃ p, nanWord p = w := by
  obtain ⟨hexp, hfrac⟩ := (ofWord_eq_nan_iff w).mp h
  refine ⟨(w.getLsbD 31, ⟨w.toNat % 2 ^ 23 - 1, by omega⟩), BitVec.eq_of_toNat_eq ?_⟩
  have hw := toNat_eq_fields w
  rw [hexp] at hw
  rw [toNat_nanWord]
  dsimp only
  omega

/-- A value written is stored as its word, a NaN as the one of its free pattern (log 8). -/
theorem writeFls_readWord_written {vs : List Fl} {i : Nat} {v : Fl} (hv : vs[i]? = some v) (s : State) (b : BankId)
    (lo : Nat) :
    (s.writeFls b lo vs).readWord b (lo + i) = v.toWord (nanWord (Config.nanPattern s.draws b.code (lo + i))) := by
  have hi : i < vs.length := (List.getElem?_eq_some_iff.mp hv).1
  rw [State.writeFls, writeWords_readWord, storeWords_length, if_pos ⟨rfl, by omega, by omega⟩,
    List.getD_eq_getElem?_getD, Nat.add_sub_cancel_left, storeWords_getElem?, hv]
  rfl

/-- Settles O45: a written value is stored as its word, and reads back from it. -/
theorem nanPatternsAreTheDraws : Obligations.NanPatternsAreTheDraws := by
  refine ⟨ofWord_nanWord, fun w => exists_nanWord, fun s b lo vs i v hv hwf => ?_⟩
  rw [writeFls_readWord_written hv]
  exact ⟨ofWord_toWord _ hwf, fun h => by rw [h, Fl.toWord]⟩

end Sys2Proof.Machine
end

section
/-! SUPPORT. The rotations, the reductions and the base block (rules R110 to R114, R170 to R174): the order of the
operations, how a NaN spreads, why no sum is -0, and what one BASE step writes. -/

namespace Sys2Proof.Machine

/-! ### The reductions -/

theorem reduceSeqFrom_eq_foldl (acc : Fl) (ts : List Fl) : reduceSeqFrom acc ts = ts.foldl fadd acc := by
  induction ts generalizing acc with
  | nil => rfl
  | cons t ts ih => exact ih _

/-- The tree of group g in VEC4 order (rule R113). -/
def vec4Tree (ts : List Fl) (g : Nat) : Fl :=
  fadd (fadd (ts.getD (4 * g) .nan) (ts.getD (4 * g + 1) .nan))
    (fadd (ts.getD (4 * g + 2) .nan) (ts.getD (4 * g + 3) .nan))

/-- VEC4 order adds the trees of its groups in increasing order (rule R113). -/
theorem reduceVec4From_eq_foldl (groups : Nat) (acc : Fl) {ts : List Fl} (h : ts.length = 4 * groups) :
    reduceVec4From acc ts = (List.range groups).foldl (fun acc g => fadd acc (vec4Tree ts g)) acc := by
  induction groups generalizing acc ts with
  | zero => rw [List.length_eq_zero_iff.mp h]; rfl
  | succ groups ih =>
    match ts, h with
    | a :: b :: c :: d :: ts, h =>
      rw [reduceVec4From, ih _ (by simpa [Nat.mul_add] using h), List.range_succ_eq_map, List.foldl_cons,
        List.foldl_map]
      rfl

theorem eq_map_getD_range (ts : List Fl) : ts = (List.range ts.length).map (fun n => ts.getD n .nan) := by
  refine List.ext_getElem (by simp) fun i h _ => ?_
  simp [List.getD_eq_getElem?_getD, h]

/-- A sum onto an accumulator that is not -0 is not -0: an exact zero is -0 only for -0 + -0, and no other sum rounds to
a zero (rule R103). -/
theorem fadd_ne_negZero {acc : Fl} (h : ∀ e, acc ≠ .fin true 0 e) (x : Fl) (e : Nat) : fadd acc x ≠ .fin true 0 e := by
  intro hadd
  match acc, x with
  | .nan, _ => cases hadd
  | .inf _, .nan => cases hadd
  | .inf s, .inf t => cases s <;> cases t <;> cases hadd
  | .inf _, .fin _ _ _ => cases hadd
  | .fin _ _ _, .nan => cases hadd
  | .fin _ _ _, .inf _ => cases hadd
  | .fin s m k, .fin t n f =>
    rcases fadd_fin_cases s m k t n f with ⟨hsum, hzero⟩ | ⟨u, num, hpos, -, hrn⟩
    · obtain ⟨rfl, rfl⟩ : s = true ∧ t = true := by
        rw [hadd, Fl.fin.injEq] at hzero
        simpa using hzero.1.symm
      have hm : m = 0 := by
        rw [toReal_fin, toReal_fin, ← add_div, ← mul_add, ← Nat.cast_add] at hsum
        have h0 := (mul_eq_zero.mp ((div_eq_zero_iff.mp hsum).resolve_right (by positivity))).resolve_left
          (signFactor_ne_zero true)
        simpa using (Nat.add_eq_zero_iff.mp (Nat.cast_eq_zero.mp h0)).1
      exact h k (by rw [hm])
    · exact rn32_one_ne_zero hpos u true e (hrn ▸ hadd)

theorem reduceSeqFrom_ne_negZero {acc : Fl} (h : ∀ e, acc ≠ .fin true 0 e) (ts : List Fl) (e : Nat) :
    reduceSeqFrom acc ts ≠ .fin true 0 e := by
  induction ts generalizing acc with
  | nil => exact h e
  | cons t ts ih => exact ih (fadd_ne_negZero h t)

theorem reduceVec4From_ne_negZero {acc : Fl} (h : ∀ e, acc ≠ .fin true 0 e) (ts : List Fl) (e : Nat) :
    reduceVec4From acc ts ≠ .fin true 0 e := by
  induction acc, ts using reduceVec4From.induct with
  | case1 acc a b c d ts ih => exact ih (fadd_ne_negZero h _)
  | case2 acc ts hts => rw [reduceVec4From]; exacts [h e, hts]

/-- The accumulator starts at +0, so no reduction gives -0 (rules R103, R112, R113). -/
theorem reduce_ne_negZero (o : Order) (ts : List Fl) (e : Nat) : reduce o ts ≠ .fin true 0 e := by
  have hzero (e : Nat) : Fl.zero ≠ .fin true 0 e := nofun
  cases o with
  | seq => exact reduceSeqFrom_ne_negZero hzero ts e
  | vec4 => exact reduceVec4From_ne_negZero hzero ts e

/-- Settles O30: SEQ is a fold over the terms, VEC4 one over the trees of the eight groups. -/
theorem reductionOrderOfBackend : Obligations.ReductionOrderOfBackend := by
  refine ⟨fun ts hts => ⟨?_, reduceVec4From_eq_foldl 8 _ hts⟩, fun b => by cases b <;> rfl, reduce_ne_negZero⟩
  conv_lhs => rw [reduce, reduceSeqFrom_eq_foldl, eq_map_getD_range ts, hts, List.foldl_map]

/-! ### The rotations -/

/-- Settles O51: the rotations are their definitions, and the example is one evaluation of them. -/
theorem rotationsInWrittenOrder : Obligations.RotationsInWrittenOrder :=
  ⟨fun _ _ _ _ => rfl, fun _ _ _ _ => rfl, by decide⟩

/-- A NaN in the rotated value makes both parts of the rotation NaN, in both directions (rules R107, R110). -/
theorem rot_nan {a b : Fl} (h : a = .nan ∨ b = .nan) (d : Dir) (c s : Fl) : rot d a b c s = (.nan, .nan) := by
  have hneg : fneg .nan = .nan := rfl
  have hmul (x : Fl) : fmul .nan x = .nan := rfl
  have hadd (x : Fl) : fadd .nan x = .nan := rfl
  rcases h with rfl | rfl <;> cases d <;> simp only [rot, rotF, rotI, fsub, hneg, hmul, hadd, fadd_nan_right]

/-! ### A NaN in a reduction -/

theorem reduceSeqFrom_nan (ts : List Fl) : reduceSeqFrom .nan ts = .nan := by
  induction ts with
  | nil => rfl
  | cons t ts ih => exact ih

theorem reduceSeqFrom_of_mem_nan (acc : Fl) {ts : List Fl} (h : .nan ∈ ts) : reduceSeqFrom acc ts = .nan := by
  induction ts generalizing acc with
  | nil => cases h
  | cons t ts ih =>
    rw [reduceSeqFrom]
    rcases List.mem_cons.mp h with rfl | h
    · rw [fadd_nan_right, reduceSeqFrom_nan]
    · exact ih _ h

theorem fadd_tree_of_mem_nan {a b c d : Fl} (h : .nan ∈ [a, b, c, d]) : fadd (fadd a b) (fadd c d) = .nan := by
  have hadd (x : Fl) : fadd .nan x = .nan := rfl
  simp only [List.mem_cons, List.not_mem_nil, or_false] at h
  rcases h with rfl | rfl | rfl | rfl <;> simp only [hadd, fadd_nan_right]

/-- Over whole groups of four; a shorter rest is not added. -/
theorem reduceVec4From_of_nan (groups : Nat) {acc : Fl} {ts : List Fl} (hlen : ts.length = 4 * groups)
    (h : acc = .nan ∨ .nan ∈ ts) : reduceVec4From acc ts = .nan := by
  induction groups generalizing acc ts with
  | zero =>
    obtain rfl := List.length_eq_zero_iff.mp hlen
    exact h.resolve_right List.not_mem_nil
  | succ groups ih =>
    match ts, hlen with
    | a :: b :: c :: d :: ts, hlen =>
      rw [reduceVec4From]
      refine ih (by simpa [Nat.mul_add] using hlen) ?_
      rcases h with rfl | h
      · exact .inl rfl
      · rcases List.mem_append.mp (show .nan ∈ [a, b, c, d] ++ ts from h) with h | h
        · exact .inl (by rw [fadd_tree_of_mem_nan h, fadd_nan_right])
        · exact .inr h

/-- A NaN among 32 terms makes their sum NaN, in both orders (rules R107, R112, R113). -/
theorem reduce_of_mem_nan (o : Order) {ts : List Fl} (hlen : ts.length = 32) (h : .nan ∈ ts) : reduce o ts = .nan := by
  cases o with
  | seq => exact reduceSeqFrom_of_mem_nan _ h
  | vec4 => exact reduceVec4From_of_nan 8 hlen (.inr h)

/-! ### The transform of a section -/

/-- Term n is the rotation of value n by its twiddle (rules R132, R171, R172). -/
theorem baseTermsFrom_eq_mapIdx (d : Dir) (rom : Rom) (k lo : Nat) (xs : List (Fl × Fl)) :
    baseTermsFrom d rom k lo xs =
      xs.mapIdx fun n x => rot d x.1 x.2 (baseTwiddle rom (lo + n) k).1 (baseTwiddle rom (lo + n) k).2 := by
  induction xs generalizing lo with
  | nil => rfl
  | cons x xs ih =>
    rw [baseTermsFrom, ih, List.mapIdx_cons]
    simp only [Nat.add_zero, Nat.add_assoc, Nat.add_comm 1]

/-- Settles O29: the term of a NaN is a NaN in both parts, and so is every sum with it. -/
theorem nanSpoilsWholeSection : Obligations.NanSpoilsWholeSection := by
  intro d o rom xs k hlen ⟨x, hx, hnan⟩
  have hterms : (baseTermsFrom d rom k 0 xs).length = 32 := by rw [baseTermsFrom_eq_mapIdx, List.length_mapIdx, hlen]
  have hmem : (Fl.nan, Fl.nan) ∈ baseTermsFrom d rom k 0 xs := by
    obtain ⟨n, hn, rfl⟩ := List.mem_iff_getElem.mp hx
    rw [baseTermsFrom_eq_mapIdx]
    exact List.mem_mapIdx.mpr ⟨n, hn, rot_nan hnan d _ _⟩
  have hre := reduce_of_mem_nan o (by rwa [List.length_map]) (List.mem_map_of_mem (f := Prod.fst) hmem)
  have him := reduce_of_mem_nan o (by rwa [List.length_map]) (List.mem_map_of_mem (f := Prod.snd) hmem)
  rw [baseOutput, hre, him]

/-! ### One BASE step -/

/-- Term n of output k of a section in S. -/
def State.baseTerm (d : Dir) (s : State) (sec k n : Nat) : Fl × Fl :=
  rot d (s.readPair .s (32 * sec + n)).1 (s.readPair .s (32 * sec + n)).2
    (baseTwiddle s.rom n k).1 (baseTwiddle s.rom n k).2

/-- Output k of a section in S is the sum of its 32 terms (rules R171, R172). -/
theorem baseOutput_sectionValues (d : Dir) (o : Order) (s : State) (sec k : Nat) :
    baseOutput d o s.rom (s.sectionValues sec) k =
      (reduce o ((List.range 32).map fun n => (s.baseTerm d sec k n).1),
        reduce o ((List.range 32).map fun n => (s.baseTerm d sec k n).2)) := by
  have hterms : baseTermsFrom d s.rom k 0 (s.sectionValues sec) = (List.range 32).map (s.baseTerm d sec k) := by
    rw [baseTermsFrom_eq_mapIdx, State.sectionValues]
    refine List.ext_getElem (by simp [Config.B]) fun n _ _ => ?_
    simp [State.baseTerm, Config.B]
  rw [baseOutput, hterms, List.map_map, List.map_map]
  rfl

/-- A section's transform changes S, the cursor and the model's own choices and draws only. -/
theorem afterSection_frame (d : Dir) (j sec : Nat) (s : State) :
    s.afterSection d j sec = { s with
      sr := (s.afterSection d j sec).sr, si := (s.afterSection d j sec).si, cursor := s.cursor.eraseIdx j,
      picks := s.picks.tail, draws := s.draws + 1 } := rfl

/-- A word outside the section is as before, bit for bit (rule R170). -/
theorem afterSection_readWord_outside (d : Dir) (j sec : Nat) (s : State) (b : BankId) {m : Nat}
    (hm : m < 32 * sec ∨ 32 * sec + 32 ≤ m) : (s.afterSection d j sec).readWord b m = s.readWord b m := by
  have hread : (s.afterSection d j sec).readWord b m = (s.transformSection d sec).readWord b m := rfl
  rw [hread, State.transformSection, writePairs_readWord_other]
  simp only [List.length_map, List.length_range, Config.B]
  omega

/-- What a BASE step of a direction does, for the instruction that runs it (rules R171, R172, R174, R241). -/
theorem baseStepSpec {i : Instr} {d : Dir} (hexec : ∀ s, exec i s = .next (s.baseStep d)) : BaseStepSpec i (rot d) := by
  intro s hc
  obtain ⟨j, hj, hstep⟩ := baseStep_cases d hc
  refine ⟨j, hj, s.afterSection d j s.cursor[j], by rw [hexec, hstep], afterSection_frame d j _ s, fun k hk => ?_,
    fun m hm => ⟨afterSection_readWord_outside d j _ s .sr hm, afterSection_readWord_outside d j _ s .si hm⟩⟩
  rw [afterSection_readPair, if_pos ⟨rfl, by omega, by omega⟩, Nat.add_sub_cancel_left, baseOutput_sectionValues]
  rfl

/-- Settles O27: BASE_FWD is the BASE step with the forward rotation. -/
theorem baseFwdTransformsOneSection : Obligations.BaseFwdTransformsOneSection :=
  baseStepSpec (d := .fwd) fun _ => rfl

/-- Settles O28: BASE_INV is the BASE step with the inverse rotation. -/
theorem baseInvTransformsOneSection : Obligations.BaseInvTransformsOneSection :=
  baseStepSpec (d := .inv) fun _ => rfl

end Sys2Proof.Machine
end

section
/-! SUPPORT. One merge stage (rules R190 to R194): the two outputs of a butterfly, and what a MERGE step writes. -/

namespace Sys2Proof.Machine

theorem State.div_eq (s : State) : s.div = 32 * 2 ^ s.stage.toNat := Nat.shiftLeft_eq _ _

/-- The lower output of the butterfly at offset k of span p (rules R191, R192). -/
theorem mergeValue_lo (d : Dir) (rom : Rom) (src : Nat → Fl × Fl) (p : Nat) {k div : Nat} (hk : k < div) :
    mergeValue d rom div src (2 * p * div + k) =
      butterflyLo (src (2 * p * div + k)) (butterflyW d rom div k (src (2 * p * div + div + k))) := by
  have hspan : 2 * p * div + k = 2 * div * p + k := by ring
  have hstart : (2 * div * p + k) / (2 * div) * (2 * div) = 2 * p * div := by
    rw [Nat.mul_add_div (by omega), Nat.div_eq_of_lt (by omega), Nat.add_zero]; ring
  have hoffset : (2 * div * p + k) % div = k := by
    rw [Nat.mul_right_comm, Nat.mul_comm, Nat.mul_add_mod, Nat.mod_eq_of_lt hk]
  have hhalf : (2 * div * p + k) % (2 * div) = k := by rw [Nat.mul_add_mod, Nat.mod_eq_of_lt (by omega)]
  simp only [mergeValue, hspan, hstart, hoffset, hhalf, if_pos hk]

/-- The upper output of the butterfly at offset k of span p (rules R191, R192). -/
theorem mergeValue_hi (d : Dir) (rom : Rom) (src : Nat → Fl × Fl) (p : Nat) {k div : Nat} (hk : k < div) :
    mergeValue d rom div src (2 * p * div + div + k) =
      butterflyHi (src (2 * p * div + k)) (butterflyW d rom div k (src (2 * p * div + div + k))) := by
  have hspan : 2 * p * div + div + k = 2 * div * p + (div + k) := by ring
  have hstart : (2 * div * p + (div + k)) / (2 * div) * (2 * div) = 2 * p * div := by
    rw [Nat.mul_add_div (by omega), Nat.div_eq_of_lt (by omega), Nat.add_zero]; ring
  have hoffset : (2 * div * p + (div + k)) % div = k := by
    rw [show 2 * div * p + (div + k) = div * (2 * p + 1) + k by ring, Nat.mul_add_mod, Nat.mod_eq_of_lt hk]
  have hhalf : (2 * div * p + (div + k)) % (2 * div) = div + k := by
    rw [Nat.mul_add_mod, Nat.mod_eq_of_lt (by omega)]
  rw [mergeValue, hspan, hstart, hoffset, hhalf, if_neg (by omega), ← hspan]

/-- A merge stage changes the banks, ROLE, STAGE and the model's own draws only. -/
theorem afterStage_frame (d : Dir) (s : State) :
    s.afterStage d = { s with
      xr := (s.afterStage d).xr, xi := (s.afterStage d).xi, sr := (s.afterStage d).sr, si := (s.afterStage d).si,
      role := s.role.other, stage := s.stage + 1, draws := s.draws + 1 } := by
  unfold State.afterStage
  cases s.role <;> rfl

theorem Role.other_ne (r : Role) : r.other ≠ r := by cases r <;> decide

/-- A merge stage writes no word of the live bank pair (rule R190). -/
theorem afterStage_readWord_live (d : Dir) (s : State) (m : Nat) :
    (s.afterStage d).readWord s.role.re m = s.readWord s.role.re m ∧
      (s.afterStage d).readWord s.role.im m = s.readWord s.role.im m := by
  have hkeep {b : BankId} (hre : b ≠ s.role.other.re) (him : b ≠ s.role.other.im) :
      (s.afterStage d).readWord b m = s.readWord b m :=
    writePairs_readWord_other s fun h => h.1.elim hre him
  exact ⟨hkeep (fun h => s.role.other_ne (role_re_inj.mp h).symm) (role_re_ne_im _ _),
    hkeep (role_re_ne_im _ _).symm (fun h => s.role.other_ne (role_im_inj.mp h).symm)⟩

/-- What a MERGE step of a direction does, for the instruction that runs it (rules R190 to R194, R241). -/
theorem mergeStepSpec {i : Instr} {d : Dir} (hexec : ∀ s, exec i s = .next (s.mergeStep d)) :
    MergeStepSpec i (rot d) (twiddle d) := by
  intro s
  refine ⟨s.afterStage d, by rw [hexec, mergeStep_eq], afterStage_frame d s, fun p k hk hN => ?_,
    afterStage_readWord_live d s,
    fun m hm => ⟨afterStage_readWord_above d s _ hm, afterStage_readWord_above d s _ hm⟩⟩
  rw [← s.div_eq] at hk hN ⊢
  dsimp only
  rw [afterStage_readPair, afterStage_readPair, if_pos ⟨rfl, by omega⟩, if_pos ⟨rfl, by omega⟩,
    mergeValue_lo d s.rom _ p hk, mergeValue_hi d s.rom _ p hk]
  exact ⟨rfl, rfl⟩

/-- Settles O31: MERGE_FWD is the merge step with the forward rotation and the sampled twiddle. -/
theorem mergeFwdRunsOneStage : Obligations.MergeFwdRunsOneStage :=
  mergeStepSpec (d := .fwd) fun _ => rfl

/-- Settles O32: MERGE_INV is the merge step with the inverse rotation and the directly computed twiddle. -/
theorem mergeInvRunsOneStage : Obligations.MergeInvRunsOneStage :=
  mergeStepSpec (d := .inv) fun _ => rfl

end Sys2Proof.Machine
end

section
/-! SUPPORT. The sample index (rule R137). -/

namespace Sys2Proof.Machine

/-- Settles O54: up to div = 1024 the quotient is exact, beyond it is the one of k by div/1024. -/
theorem sampleIndexQuantizes : Obligations.SampleIndexQuantizes := by
  intro j k hk
  have hindex : sampleIndex k (2 ^ j) = k * 1024 / 2 ^ j := rfl
  refine ⟨hindex, ?_, fun hj => ?_, fun hj => ?_⟩
  · rw [hindex, Nat.div_lt_iff_lt_mul (Nat.two_pow_pos j)]
    omega
  · rw [hindex, show 1024 = 2 ^ (10 - j) * 2 ^ j from (pow_sub_mul_pow 2 hj).symm, ← mul_assoc,
      Nat.mul_div_cancel _ (Nat.two_pow_pos j)]
  · have hquot : sampleIndex k (2 ^ j) = k / 2 ^ (j - 10) := by
      rw [hindex, show 2 ^ j = 2 ^ (j - 10) * 1024 from (pow_sub_mul_pow 2 hj.le).symm,
        Nat.mul_div_mul_right _ _ (by decide)]
    rw [hquot]
    exact ⟨Nat.div_mul_le_self _ _, Nat.lt_mul_of_div_lt (Nat.lt_succ_self _) (Nat.two_pow_pos _)⟩

end Sys2Proof.Machine
end

section
/-! SUPPORT. The cosine with 128 fraction bits (rule R139, log 12): `piFixed` is pi and `cosFixed` the cosine, both to
a few units of the last bit. -/

namespace Sys2Proof.Machine

/-- An error in units of the last fraction bit. -/
theorem abs_unit_le_iff {y t e : ℝ} : |y / 2 ^ 128 - t| ≤ e / 2 ^ 128 ↔ |y - 2 ^ 128 * t| ≤ e := by
  have hU : (0 : ℝ) < 2 ^ 128 := by positivity
  rw [show y / 2 ^ 128 - t = (y - 2 ^ 128 * t) / 2 ^ 128 by rw [sub_div, mul_div_cancel_left₀ _ hU.ne'], abs_div,
    abs_of_pos hU, div_le_div_iff_of_pos_right hU]

/-! ### `piFixed` -/

/-- The error of a partial sum of the arctangent series, by its geometric tail. -/
theorem abs_arctan_sub_sum_le {x : ℝ} (h0 : 0 ≤ x) (h1 : x < 1) (n : Nat) :
    |∑ i ∈ Finset.range n, (-1) ^ i * x ^ (2 * i + 1) / ((2 * i + 1 : ℕ) : ℝ) - Real.arctan x| ≤
      x * (x ^ 2) ^ n / (1 - x ^ 2) := by
  refine norm_sub_le_of_geometric_bound_of_hasSum (by nlinarith) (fun i => ?_)
    (Real.hasSum_arctan (by rwa [Real.norm_of_nonneg h0])) n
  rw [norm_div, norm_mul, norm_pow, norm_neg, norm_one, one_pow, one_mul, Real.norm_of_nonneg (by positivity),
    Real.norm_of_nonneg (by positivity), pow_succ', pow_mul]
  exact div_le_self (by positivity) (by exact_mod_cast Nat.succ_pos _)

/-- `piFixed` is pi to the last of its 128 fraction bits, by Machin's formula. -/
theorem abs_piFixed_sub_pi_le : |(piFixed : ℝ) / 2 ^ 128 - Real.pi| ≤ 1 / 2 ^ 128 := by
  have hmachin := Real.four_mul_arctan_inv_5_sub_arctan_inv_239
  have h5 := abs_arctan_sub_sum_le (x := 5⁻¹) (by norm_num) (by norm_num) 30
  have h239 := abs_arctan_sub_sum_le (x := 239⁻¹) (by norm_num) (by norm_num) 9
  norm_num [Finset.sum_range_succ, abs_le] at h5 h239
  rw [piFixed, abs_le]
  norm_num
  constructor <;> linarith

/-! ### The series of `cosSeries` over the reals -/

/-- The nested cosine series of `cosSeries` in exact arithmetic, with X the square of the angle. -/
noncomputable def nestedCos (X : ℝ) : Nat → Nat → ℝ
  | 0, _ => 1
  | n + 1, j => 1 - X * nestedCos X n (j + 1) / ((2 * j + 1) * (2 * j + 2) : ℕ)

/-- From level 1 on the nested series stays between 0 and 1. -/
theorem nestedCos_mem_Icc {X : ℝ} (h0 : 0 ≤ X) (hX : X ≤ 5 / 2) (n : Nat) {j : Nat} (hj : 1 ≤ j) :
    0 ≤ nestedCos X n j ∧ nestedCos X n j ≤ 1 := by
  induction n generalizing j with
  | zero => simp [nestedCos]
  | succ n ih =>
    obtain ⟨hlo, hhi⟩ := ih (Nat.le_succ_of_le hj)
    have hd : (12 : ℝ) ≤ ((2 * j + 1) * (2 * j + 2) : ℕ) := by exact_mod_cast (by nlinarith)
    have hnn : 0 ≤ X * nestedCos X n (j + 1) / ((2 * j + 1) * (2 * j + 2) : ℕ) := by positivity
    have hle : X * nestedCos X n (j + 1) / ((2 * j + 1) * (2 * j + 2) : ℕ) ≤ 1 := by
      rw [div_le_one (by linarith)]
      nlinarith
    rw [nestedCos]
    constructor <;> linarith

/-- The nested series from level j on is the cosine series from its term of degree 2j on, over that term. -/
theorem nestedCos_eq_sum (X : ℝ) (n j : Nat) :
    nestedCos X n j =
      ∑ i ∈ Finset.range (n + 1), (-1) ^ i * X ^ i * ((2 * j).factorial / (2 * (j + i)).factorial : ℝ) := by
  induction n generalizing j with
  | zero => simp [nestedCos, Nat.factorial_ne_zero]
  | succ n ih =>
    rw [nestedCos, ih, Finset.sum_range_succ' _ (n + 1), Finset.mul_sum, Finset.sum_div, sub_eq_add_neg,
      ← Finset.sum_neg_distrib, add_comm]
    congr 1
    · refine Finset.sum_congr rfl fun i _ => ?_
      have hfact : ((2 * (j + 1)).factorial : ℝ) = ((2 * j + 1) * (2 * j + 2) : ℕ) * (2 * j).factorial := by
        rw [show 2 * (j + 1) = 2 * j + 1 + 1 by ring, Nat.factorial_succ, Nat.factorial_succ]
        push_cast; ring
      rw [hfact, show j + (i + 1) = j + 1 + i by ring]
      field_simp
      ring
    · simp [Nat.factorial_ne_zero]

/-- 24 levels give the cosine to 128 bits: the terms left out are below `exp 13 / 64^25`. -/
theorem abs_nestedCos_sub_cos_le {x : ℝ} (hx : |x| ≤ 8 / 5) :
    |nestedCos (x ^ 2) 24 0 - Real.cos x| ≤ 1 / 2 ^ 128 := by
  have hterm (i : Nat) : ‖(-1) ^ i * x ^ (2 * i) / (2 * i).factorial‖ ≤ 3 ^ 13 * (1 / 64) ^ i := by
    have hexp : Real.exp (8 * |x|) ≤ 3 ^ 13 := calc
      Real.exp (8 * |x|) ≤ Real.exp ((13 : ℕ) * 1) := Real.exp_le_exp.mpr (by norm_num; linarith)
      _ = Real.exp 1 ^ 13 := Real.exp_nat_mul 1 13
      _ ≤ 3 ^ 13 := pow_le_pow_left₀ (Real.exp_pos 1).le Real.exp_one_lt_three.le 13
    have hpow : |x| ^ (2 * i) = (8 * |x|) ^ (2 * i) * (1 / 64) ^ i := by
      rw [mul_pow, pow_mul 8, mul_right_comm, ← mul_pow]; norm_num
    have hfact := Real.pow_div_factorial_le_exp (x := 8 * |x|) (by positivity) (2 * i)
    rw [norm_div, norm_mul, norm_pow, norm_pow, norm_neg, norm_one, one_pow, one_mul, Real.norm_natCast, Real.norm_eq_abs,
      hpow, mul_div_right_comm]
    gcongr
    exact hfact.trans hexp
  have htail := norm_sub_le_of_geometric_bound_of_hasSum (by norm_num) hterm (Real.hasSum_cos x) 25
  have hsum : nestedCos (x ^ 2) 24 0 = ∑ i ∈ Finset.range 25, (-1) ^ i * x ^ (2 * i) / ((2 * i).factorial : ℝ) := by
    rw [nestedCos_eq_sum]
    refine Finset.sum_congr rfl fun i _ => ?_
    simp [pow_mul, div_eq_mul_inv]
  rw [hsum]
  exact htail.trans (by norm_num)

/-! ### `cosSeries` follows the series -/

theorem cosSeries_zero (x2 j : Nat) : cosSeries x2 0 j = 2 ^ 128 := rfl

theorem cosSeries_succ (x2 n j : Nat) : cosSeries x2 (n + 1) j =
    2 ^ 128 - (x2 * cosSeries x2 n (j + 1)) >>> 128 / ((2 * j + 1) * (2 * j + 2)) := rfl

/-- Rounding a quotient down loses less than 1. -/
theorem abs_natDiv_sub_le (a d : Nat) : |((a / d : ℕ) : ℝ) - a / d| ≤ 1 := by
  have hlt := Nat.lt_floor_add_one ((a : ℝ) / d)
  rw [Nat.floor_div_eq_div] at hlt
  have hle := Nat.cast_div_le (α := ℝ) (m := a) (n := d)
  rw [abs_le]
  constructor <;> linarith

/-- Subtraction cut off at 0 is no farther from a number that is not negative. -/
theorem abs_natSub_sub_le (a b : Nat) {t : ℝ} (ht : 0 ≤ t) : |((a - b : ℕ) : ℝ) - t| ≤ |(a : ℝ) - b - t| := by
  rcases Nat.le_total b a with h | h
  · rw [Nat.cast_sub h]
  · have hab : (a : ℝ) ≤ b := by exact_mod_cast h
    rw [Nat.sub_eq_zero_of_le h, Nat.cast_zero, abs_of_nonpos (by linarith), abs_of_nonpos (by linarith)]
    linarith

/-- One level of the series in fixed point: an error of 2 units in the next level c is `1 + 5/d` units in the term. -/
theorem abs_cosTerm_sub_le {x2 c d : Nat} {t : ℝ} (hx : (x2 : ℝ) / 2 ^ 128 ≤ 5 / 2) (hd : 0 < d)
    (hc : |(c : ℝ) - 2 ^ 128 * t| ≤ 2) :
    |(((x2 * c) >>> 128 / d : ℕ) : ℝ) - 2 ^ 128 * ((x2 : ℝ) / 2 ^ 128 * t / d)| ≤ 1 + 5 / (d : ℝ) := by
  have hd' : (0 : ℝ) < d := by exact_mod_cast hd
  have hx0 : 0 ≤ (x2 : ℝ) / 2 ^ 128 := by positivity
  have hfloor := abs_natDiv_sub_le (x2 * c) (2 ^ 128 * d)
  rw [← Nat.div_div_eq_div_mul, ← Nat.shiftRight_eq_div_pow] at hfloor
  have hlevel : |((x2 * c : ℕ) : ℝ) / (2 ^ 128 * d : ℕ) - 2 ^ 128 * ((x2 : ℝ) / 2 ^ 128 * t / d)| ≤ 5 / (d : ℝ) := by
    have hscale : ((x2 * c : ℕ) : ℝ) / (2 ^ 128 * d : ℕ) - 2 ^ 128 * ((x2 : ℝ) / 2 ^ 128 * t / d) =
        (x2 : ℝ) / 2 ^ 128 * (c - 2 ^ 128 * t) / d := by
      rw [Nat.cast_mul, Nat.cast_mul, Nat.cast_pow, Nat.cast_ofNat]
      ring
    rw [hscale, abs_div, abs_mul, abs_of_nonneg hx0, abs_of_pos hd']
    gcongr
    exact (mul_le_mul hx hc (abs_nonneg _) (by norm_num)).trans_eq (by norm_num)
  exact (abs_sub_le _ _ _).trans (add_le_add hfloor hlevel)

/-- A level of `cosSeries` is within the error of its term of any number that is not negative. -/
theorem abs_cosSeries_succ_sub_le (x2 n j : Nat) {t : ℝ} (ht : 0 ≤ t) :
    |(cosSeries x2 (n + 1) j : ℝ) - 2 ^ 128 * t| ≤
      |(((x2 * cosSeries x2 n (j + 1)) >>> 128 / ((2 * j + 1) * (2 * j + 2)) : ℕ) : ℝ) - 2 ^ 128 * (1 - t)| := by
  rw [cosSeries_succ]
  refine (abs_natSub_sub_le _ _ (by positivity)).trans (le_of_eq ?_)
  rw [← abs_neg, Nat.cast_pow, Nat.cast_ofNat]
  congr 1
  ring

/-- From level 1 on `cosSeries` is within 2 units of the nested series. -/
theorem abs_cosSeries_sub_nestedCos_le {x2 : Nat} (hx : (x2 : ℝ) / 2 ^ 128 ≤ 5 / 2) (n : Nat) {j : Nat} (hj : 1 ≤ j) :
    |(cosSeries x2 n j : ℝ) - 2 ^ 128 * nestedCos ((x2 : ℝ) / 2 ^ 128) n j| ≤ 2 := by
  induction n generalizing j with
  | zero => norm_num [cosSeries_zero, nestedCos]
  | succ n ih =>
    have hd : 5 ≤ (2 * j + 1) * (2 * j + 2) := by nlinarith
    have hterm := abs_cosTerm_sub_le hx (Nat.lt_of_lt_of_le (by decide) hd) (ih (Nat.le_succ_of_le hj))
    have hsmall : 5 / (((2 * j + 1) * (2 * j + 2) : ℕ) : ℝ) ≤ 1 :=
      div_le_one_of_le₀ (by exact_mod_cast hd) (by positivity)
    refine (abs_cosSeries_succ_sub_le x2 n j (nestedCos_mem_Icc (by positivity) hx (n + 1) hj).1).trans ?_
    rw [nestedCos, sub_sub_cancel]
    linarith

/-- The cosine is Lipschitz in the square of the angle. -/
theorem abs_cos_sub_cos_le (a b : ℝ) : |Real.cos a - Real.cos b| ≤ |a ^ 2 - b ^ 2| / 2 := by
  rw [Real.cos_sub_cos, abs_mul, abs_mul, abs_neg, abs_two]
  have hsum := Real.abs_sin_le_abs (x := (a + b) / 2)
  have hdiff := Real.abs_sin_le_abs (x := (a - b) / 2)
  calc 2 * |Real.sin ((a + b) / 2)| * |Real.sin ((a - b) / 2)| ≤ 2 * |(a + b) / 2| * |(a - b) / 2| := by gcongr
    _ = |a ^ 2 - b ^ 2| / 2 := by
      rw [mul_assoc, ← abs_mul, show a ^ 2 - b ^ 2 = 4 * ((a + b) / 2 * ((a - b) / 2)) by ring, abs_mul 4]
      norm_num; ring

/-! ### `cosFixed` -/

/-- The fixed-point angle is the angle to 2 units. -/
theorem abs_angle_sub_le {k div : Nat} (hdiv : 0 < div) (hk : 2 * k ≤ div) :
    |((piFixed * k / div : ℕ) : ℝ) / 2 ^ 128 - Real.pi * k / div| ≤ 2 / 2 ^ 128 := by
  have hd : (0 : ℝ) < div := by exact_mod_cast hdiv
  have hratio : (k : ℝ) / div ≤ 1 := by
    rw [div_le_one hd]
    exact_mod_cast (by omega)
  have hfloor : |((piFixed * k / div : ℕ) : ℝ) / 2 ^ 128 - piFixed / 2 ^ 128 * (k / div)| ≤ 1 / 2 ^ 128 := by
    have h := abs_natDiv_sub_le (piFixed * k) div
    rw [Nat.cast_mul] at h
    rwa [abs_unit_le_iff, div_mul_div_comm, mul_div_assoc', mul_div_mul_left _ _ (by positivity)]
  have hpi : |(piFixed : ℝ) / 2 ^ 128 * (k / div) - Real.pi * k / div| ≤ 1 / 2 ^ 128 := by
    rw [mul_div_assoc, ← sub_mul, abs_mul, abs_of_nonneg (by positivity : (0 : ℝ) ≤ k / div)]
    exact (mul_le_mul abs_piFixed_sub_pi_le hratio (by positivity) (by positivity)).trans_eq (mul_one _)
  refine (abs_sub_le _ _ _).trans ((add_le_add hfloor hpi).trans_eq (by ring))

/-- The angle of a cosine up to the quarter turn. -/
theorem angle_mem_Icc {k div : Nat} (hdiv : 0 < div) (hk : 2 * k ≤ div) :
    0 ≤ Real.pi * k / div ∧ Real.pi * k / div ≤ Real.pi / 2 := by
  have hd : (0 : ℝ) < div := by exact_mod_cast hdiv
  have hk' : 2 * (k : ℝ) ≤ div := by exact_mod_cast hk
  refine ⟨by positivity, ?_⟩
  rw [div_le_div_iff₀ hd two_pos]
  nlinarith [Real.pi_pos]

/-- The square of the angle with 128 fraction bits, as `cosFixed` computes it. -/
def angleSq (k div : Nat) : Nat := (piFixed * k / div * (piFixed * k / div)) >>> 128

theorem cosFixed_eq (k div : Nat) : cosFixed k div = cosSeries (angleSq k div) 24 0 := rfl

/-- The square of the fixed-point angle is the square of the angle to 9 units. -/
theorem abs_angleSq_sub_le {k div : Nat} (hdiv : 0 < div) (hk : 2 * k ≤ div) :
    |(angleSq k div : ℝ) / 2 ^ 128 - (Real.pi * k / div) ^ 2| ≤ 9 / 2 ^ 128 := by
  have hangle := abs_angle_sub_le hdiv hk
  obtain ⟨h0, hquarter⟩ := angle_mem_Icc hdiv hk
  rw [angleSq]
  generalize piFixed * k / div = x at *
  generalize Real.pi * k / div = θ at *
  have hx0 : 0 ≤ (x : ℝ) / 2 ^ 128 := by positivity
  have hsum : |(x : ℝ) / 2 ^ 128 + θ| ≤ 4 := by
    rw [abs_of_nonneg (by positivity)]
    have := (abs_le.mp hangle).2
    norm_num at this ⊢
    linarith [Real.pi_lt_d2]
  have hsq : |((x : ℝ) / 2 ^ 128) ^ 2 - θ ^ 2| ≤ 8 / 2 ^ 128 := by
    rw [sq_sub_sq, abs_mul]
    exact (mul_le_mul hsum hangle (abs_nonneg _) (by norm_num)).trans_eq (by ring)
  have hfloor : |(((x * x) >>> 128 : ℕ) : ℝ) / 2 ^ 128 - ((x : ℝ) / 2 ^ 128) ^ 2| ≤ 1 / 2 ^ 128 := by
    have h := abs_natDiv_sub_le (x * x) (2 ^ 128)
    rw [Nat.cast_mul, Nat.cast_pow, Nat.cast_ofNat] at h
    rwa [abs_unit_le_iff, Nat.shiftRight_eq_div_pow, div_pow, pow_two, pow_two (2 ^ 128 : ℝ), mul_div_assoc',
      mul_div_mul_left _ _ (by positivity)]
  exact (abs_sub_le _ _ _).trans ((add_le_add hfloor hsq).trans_eq (by ring))

theorem angleSq_le {k div : Nat} (hdiv : 0 < div) (hk : 2 * k ≤ div) : (angleSq k div : ℝ) / 2 ^ 128 ≤ 5 / 2 := by
  obtain ⟨h0, hquarter⟩ := angle_mem_Icc hdiv hk
  have hsq := (abs_le.mp (abs_angleSq_sub_le hdiv hk)).2
  norm_num at hsq ⊢
  nlinarith [Real.pi_lt_d2]

/-- The nested series of the square that `cosFixed` takes is the cosine to 11/2 units. -/
theorem abs_nestedCos_angleSq_sub_le {k div : Nat} (hdiv : 0 < div) (hk : 2 * k ≤ div) :
    |nestedCos (angleSq k div / 2 ^ 128) 24 0 - Real.cos (Real.pi * k / div)| ≤ 11 / 2 / 2 ^ 128 := by
  have hsq := abs_angleSq_sub_le hdiv hk
  have hX := angleSq_le hdiv hk
  have hX0 : 0 ≤ (angleSq k div : ℝ) / 2 ^ 128 := by positivity
  generalize (angleSq k div : ℝ) / 2 ^ 128 = X at *
  have hseries := abs_nestedCos_sub_cos_le (x := Real.sqrt X)
    (by rw [abs_of_nonneg (Real.sqrt_nonneg _), Real.sqrt_le_left (by norm_num)]; linarith)
  have hlip := abs_cos_sub_cos_le (Real.sqrt X) (Real.pi * k / div)
  rw [Real.sq_sqrt hX0] at hseries hlip
  have hangle := hlip.trans (div_le_div_of_nonneg_right hsq two_pos.le)
  exact (abs_sub_le _ _ _).trans ((add_le_add hseries hangle).trans_eq (by ring))

/-- Up to the quarter turn `cosFixed` is the cosine to 16 units, 2^(-124) (rule R139, log 12). -/
theorem abs_cosFixed_sub_cos_le {k div : Nat} (hdiv : 0 < div) (hk : 2 * k ≤ div) :
    |(cosFixed k div : ℝ) / 2 ^ 128 - Real.cos (Real.pi * k / div)| ≤ 1 / 2 ^ 124 := by
  obtain ⟨h0, hquarter⟩ := angle_mem_Icc hdiv hk
  have hcos : 0 ≤ Real.cos (Real.pi * k / div) := Real.cos_nonneg_of_neg_pi_div_two_le_of_le (by linarith) hquarter
  have hX := angleSq_le hdiv hk
  have hseries := abs_nestedCos_angleSq_sub_le hdiv hk
  rw [cosFixed_eq]
  generalize angleSq k div = x2 at *
  generalize Real.cos (Real.pi * k / div) = c at *
  -- level 0: its term in fixed point, then the cosine that the exact term gives
  have hlevel := abs_cosTerm_sub_le hX (d := (2 * 0 + 1) * (2 * 0 + 2)) (by decide)
    (abs_cosSeries_sub_nestedCos_le hX 23 (j := 0 + 1) le_rfl)
  have hfixed := abs_cosSeries_succ_sub_le x2 23 0 hcos
  rw [nestedCos] at hseries
  generalize (x2 : ℝ) / 2 ^ 128 * nestedCos (x2 / 2 ^ 128) 23 (0 + 1) / ((2 * 0 + 1) * (2 * 0 + 2) : ℕ) = term at *
  have hsplit (y : ℝ) : y - 2 ^ 128 * (1 - c) = y - 2 ^ 128 * term - 2 ^ 128 * (1 - term - c) := by ring
  have hscaled : |2 ^ 128 * (1 - term - c)| ≤ 11 / 2 := by
    rw [abs_mul, abs_of_pos (by positivity : (0 : ℝ) < 2 ^ 128)]
    exact (mul_le_mul_of_nonneg_left hseries (by positivity)).trans_eq (by norm_num)
  rw [hsplit] at hfixed
  have hunits : |(cosSeries x2 24 0 : ℝ) - 2 ^ 128 * c| ≤ 16 :=
    hfixed.trans ((abs_sub _ _).trans ((add_le_add hlevel hscaled).trans (by norm_num)))
  exact (abs_unit_le_iff.mpr hunits).trans_eq (by norm_num)

end Sys2Proof.Machine
end

section
/-! SUPPORT. The directly computed cosine (rules R139, R141, log 12): it rounds a number within 2^(-124) of the cosine. -/

namespace Sys2Proof.Machine

/-! ### The three ranges of `invCos` -/

theorem invCos_eq_ite (k div : Nat) :
    invCos k div =
      if 2 * k = div then Fl.zero
      else if 2 * k < div then rn32 false (cosFixed k div <<< 149) (1 <<< 128)
      else rn32 true (cosFixed (div - k) div <<< 149) (1 <<< 128) := by
  simp only [invCos, Bool.cond_eq_ite, Nat.beq_eq, Nat.blt_eq]

theorem invCos_quarter {k div : Nat} (h : 2 * k = div) : invCos k div = Fl.zero := by
  rw [invCos_eq_ite, if_pos h]

theorem invCos_lower {k div : Nat} (h : 2 * k < div) :
    invCos k div = rn32 false (cosFixed k div <<< 149) (1 <<< 128) := by
  rw [invCos_eq_ite, if_neg h.ne, if_pos h]

/-- Beyond the quarter turn the cosine is the one of the supplement, negated (rule R139). -/
theorem invCos_upper {k div : Nat} (h : div < 2 * k) (hk : k ≤ div) : invCos k div = fneg (invCos (div - k) div) := by
  rw [invCos_lower (k := div - k) (by omega), ← rn32_not, invCos_eq_ite, if_neg h.ne', if_neg h.not_gt, Bool.not_false]

theorem invCos_zero {div : Nat} (h : 0 < div) : invCos 0 div = Fl.one := by
  have hangle : cosFixed 0 div = cosFixed 0 1 := by rw [cosFixed, cosFixed, Nat.mul_zero, Nat.zero_div, Nat.zero_div]
  rw [invCos_lower (by omega), hangle]
  decide +kernel

/-- The cosine depends on the quotient k/div only. -/
theorem invCos_mul (k div : Nat) {c : Nat} (hc : 0 < c) : invCos (k * c) (div * c) = invCos k div := by
  have hfixed (k : Nat) : cosFixed (k * c) (div * c) = cosFixed k div := by
    rw [cosFixed, cosFixed, ← mul_assoc, Nat.mul_div_mul_right _ _ hc]
  have heq : 2 * (k * c) = div * c ↔ 2 * k = div := by rw [← mul_assoc]; exact Nat.mul_left_inj hc.ne'
  have hlt : 2 * (k * c) < div * c ↔ 2 * k < div := by rw [← mul_assoc]; exact Nat.mul_lt_mul_right hc
  simp only [invCos_eq_ite, heq, hlt, ← Nat.sub_mul, hfixed]

/-! ### The rounding of `invCos` -/

theorem cos_supplement {k div : Nat} (hdiv : 0 < div) (hk : k ≤ div) :
    Real.cos (Real.pi * k / div) = -Real.cos (Real.pi * (div - k : ℕ) / div) := by
  have hd : (div : ℝ) ≠ 0 := by exact_mod_cast hdiv.ne'
  rw [Nat.cast_sub hk, ← Real.cos_pi_sub]
  congr 1
  field_simp
  ring

theorem roundsTo_one : RoundsTo 1 Fl.one := by
  have h := rn32_roundsTo_magnitude (2 ^ 149) one_pos
  rw [Nat.cast_pow, Nat.cast_ofNat, Nat.cast_one, div_one, div_self (by positivity)] at h
  exact h

theorem roundsTo_zero : RoundsTo 0 Fl.zero := by
  simpa [rn32_zero, Fl.zero] using rn32_roundsTo_magnitude 0 one_pos

/-- `invCos` rounds a number within 2^(-124) of the cosine (rule R139, log 12). -/
theorem exists_roundsTo_invCos {k div : Nat} (hk : k < div) :
    ∃ v : ℝ, |v - Real.cos (Real.pi * k / div)| ≤ 1 / 2 ^ 124 ∧ RoundsTo v (invCos k div) := by
  have hlower {k : Nat} (h : 2 * k < div) :
      ∃ v : ℝ, |v - Real.cos (Real.pi * k / div)| ≤ 1 / 2 ^ 124 ∧ RoundsTo v (invCos k div) := by
    refine ⟨_, abs_cosFixed_sub_cos_le (by omega) h.le, ?_⟩
    have hround := rn32_roundsTo_magnitude (cosFixed k div <<< 149) (den := 1 <<< 128) (by decide)
    rw [Nat.shiftLeft_eq, Nat.one_shiftLeft, Nat.cast_mul, Nat.cast_pow, Nat.cast_pow, Nat.cast_ofNat, div_right_comm,
      mul_div_cancel_right₀ _ (by positivity)] at hround
    rwa [invCos_lower h, Nat.shiftLeft_eq, Nat.one_shiftLeft]
  rcases Nat.lt_trichotomy (2 * k) div with h | h | h
  · exact hlower h
  · have hangle : Real.pi * k / div = Real.pi / 2 := by
      have hk0 : (k : ℝ) ≠ 0 := by exact_mod_cast (by omega : k ≠ 0)
      rw [← h]; push_cast; field_simp
    refine ⟨0, ?_, invCos_quarter h ▸ roundsTo_zero⟩
    rw [hangle, Real.cos_pi_div_two, sub_zero, abs_zero]
    positivity
  · obtain ⟨v, hv, hround⟩ := hlower (k := div - k) (by omega)
    refine ⟨-v, ?_, invCos_upper h hk.le ▸ roundsTo_neg hround⟩
    rwa [cos_supplement (by omega) hk.le, neg_sub_neg, abs_sub_comm]

/-- A value that rounds a number near r is finite and nearest to r, up to twice the distance. -/
theorem RoundsTo.nearest_of_near {v r ε : ℝ} {x : Fl} (h : RoundsTo v x) (hv : |v - r| ≤ ε) (hε : ε ≤ 1)
    (hr : |r| ≤ 1) :
    x.IsFinite ∧ ∀ y : Fl, y.IsFinite → |x.toReal - r| ≤ |y.toReal - r| + 2 * ε := by
  have hsize : |v| < 2 ^ 128 - 2 ^ 103 := by
    have := abs_sub_abs_le_abs_sub v r
    norm_num
    linarith
  obtain ⟨s, m, e, hx, hwf, hnear⟩ := h.2.2 hsize
  refine ⟨⟨hwf, s, m, e, hx⟩, fun y hy => ?_⟩
  have hxv := abs_sub_le x.toReal v r
  have hyv := abs_sub_le y.toReal r v
  rw [abs_sub_comm r v] at hyv
  linarith [(hnear y hy).1]

/-- The cosine of a stage is finite and nearest to `cos(pi*k/div)` up to 2^(-100) (rule R139, log 12). -/
theorem invCos_nearest {k j : Nat} (hk : k < 2 ^ j) :
    (invCos k (2 ^ j)).IsFinite ∧ ∀ y : Fl, y.IsFinite →
      |(invCos k (2 ^ j)).toReal - Real.cos (Real.pi * k / 2 ^ j)| ≤
        |y.toReal - Real.cos (Real.pi * k / 2 ^ j)| + 1 / 2 ^ 100 := by
  obtain ⟨v, hv, hround⟩ := exists_roundsTo_invCos hk
  rw [Nat.cast_pow, Nat.cast_ofNat] at hv
  obtain ⟨hfin, hnear⟩ := hround.nearest_of_near hv (by norm_num) (Real.abs_cos_le_one _)
  exact ⟨hfin, fun y hy => (hnear y hy).trans (add_le_add_right (by norm_num) _)⟩

end Sys2Proof.Machine
end

section
/-! SUPPORT. The trig ROMs (rules R131 to R136, R142): the finite checks of the tables, each made once over a whole list,
and what they say of an entry. SCOS is checked against `cosFixed` up to the quarter turn; the rest of it, SSIN, BCOS and
BSIN follow by the symmetries. -/

namespace Sys2Proof.Machine

/-! ### The checks of the tables -/

/-- Whether every magnitude within 2^25 units of v, so within 2^(-124), rounds to the value x: v is that far above the
first 24-bit significand of the exponent and that far from the two halfway points. -/
def roundsAround (v : Nat) : Fl → Bool
  | .fin false sig exp =>
    decide (sig < 2 ^ 24 ∧ exp < 254 ∧ 2 ^ 23 * 2 ^ exp + 2 ^ 25 ≤ v ∧
      2 * v + 2 ^ 26 < (2 * sig + 1) * 2 ^ exp ∧ 2 * sig * 2 ^ exp + 2 ^ 26 < 2 * v + 2 ^ exp)
  | _ => false

theorem roundsTo_of_roundsAround {v : Nat} {x : Fl} (h : roundsAround v x = true) {R : ℝ} (hR : |R - v| ≤ 2 ^ 25) :
    RoundsTo (R / 2 ^ 149) x := by
  match x, h with
  | .fin false sig exp, h =>
    obtain ⟨hsig, hexp, hlow, habove, hbelow⟩ := of_decide_eq_true h
    have hlow' : (2 : ℝ) ^ 23 * 2 ^ exp + 2 ^ 25 ≤ v := by exact_mod_cast hlow
    have habove' : 2 * (v : ℝ) + 2 ^ 26 < (2 * sig + 1) * 2 ^ exp := by exact_mod_cast habove
    have hbelow' : 2 * (sig : ℝ) * 2 ^ exp + 2 ^ 26 < 2 * v + 2 ^ exp := by exact_mod_cast hbelow
    have hsig' : (sig : ℝ) + 1 ≤ 2 ^ 24 := by exact_mod_cast hsig
    have hU : (0 : ℝ) < 2 ^ exp := by positivity
    obtain ⟨hlo, hhi⟩ := abs_le.mp hR
    have hstrict : |(sig : ℝ) * 2 ^ exp - R| < 2 ^ exp / 2 := by rw [abs_lt]; constructor <;> linarith
    have hnear : IsNearest R sig exp :=
      ⟨hstrict.le, fun h => absurd h hstrict.ne, .inr (by linarith), by nlinarith⟩
    have hround := hnear.roundsTo (by linarith)
    rwa [carryFl_of_ne hsig.ne, packFl_of_lt hexp] at hround

/-- SCOS up to the quarter turn: each entry is the directly computed cosine, and far from a tie. -/
theorem scosTable_check : (scosTable.zipIdx.all fun c => decide (c.2 = 0 ∨ 512 ≤ c.2 ∨
    invCos c.2 1024 = Fl.ofWord c.1 ∧ roundsAround (cosFixed c.2 1024 * 2 ^ 21) (Fl.ofWord c.1) = true)) = true := by
  decide +kernel

/-- SCOS beyond the quarter turn: the entries are those before it in reverse, negated. -/
theorem scosTable_reflect :
    (scosTable.map Fl.ofWord).tail = ((scosTable.map Fl.ofWord).tail.reverse.map fneg).set 511 Fl.zero := by
  decide +kernel

theorem ssinTable_reflect : ssinTable.tail = ssinTable.tail.reverse := by decide +kernel

/-- SSIN up to the quarter turn: each entry is the sine derived from the one of SCOS. -/
theorem ssinTable_check :
    ((ssinTable.zip scosTable).take 513).all (fun c => decide (Fl.ofWord c.1 = derivedSin (Fl.ofWord c.2))) = true := by
  decide +kernel

theorem scosTable_length : scosTable.length = 1024 := by decide +kernel

theorem ssinTable_length : ssinTable.length = 1024 := by decide +kernel

/-! ### The entries of SCOS and SSIN -/

/-- Entry q of SCOS as a value. -/
def sampleCos (q : Nat) : Fl := Fl.ofWord (romWord romContents.scos q)

/-- Entry q of SSIN as a value. -/
def sampleSin (q : Nat) : Fl := Fl.ofWord (romWord romContents.ssin q)

theorem getElem?_eq_romWord {table : List Word} {q : Nat} (hq : q < table.length) :
    table[q]? = some (romWord table q) := by
  rw [romWord, List.getD_eq_getElem?_getD, List.getElem?_eq_getElem hq, Option.getD_some]

theorem getElem?_scosTable {q : Nat} (hq : q < 1024) : (scosTable.map Fl.ofWord)[q]? = some (sampleCos q) := by
  rw [List.getElem?_map, getElem?_eq_romWord (by rwa [scosTable_length])]
  rfl

theorem getElem?_ssinTable {q : Nat} (hq : q < 1024) : ssinTable[q]? = some (romWord romContents.ssin q) :=
  getElem?_eq_romWord (by rwa [ssinTable_length])

/-- Entry i + 1 of a list, seen from its other end. -/
theorem getElem?_tail_reverse {α : Type} (xs : List α) {i : Nat} (hi : i + 1 < xs.length) :
    xs.tail.reverse[i]? = xs[xs.length - (i + 1)]? := by
  rw [List.getElem?_reverse (by rw [List.length_tail]; omega), List.getElem?_tail, List.length_tail]
  congr 1
  omega

theorem sampleCos_zero : sampleCos 0 = Fl.one := by decide

theorem sampleCos_check {q : Nat} (h0 : q ≠ 0) (hq : q < 512) :
    invCos q 1024 = sampleCos q ∧ roundsAround (cosFixed q 1024 * 2 ^ 21) (sampleCos q) = true := by
  have hmem : (romWord scosTable q, q) ∈ scosTable.zipIdx :=
    List.mk_mem_zipIdx_iff_getElem?.mpr (getElem?_eq_romWord (by rw [scosTable_length]; omega))
  have hentry := of_decide_eq_true (List.all_eq_true.mp scosTable_check _ hmem)
  exact (hentry.resolve_left h0).resolve_left (Nat.not_le.mpr hq)

/-- The cosines beyond the quarter turn are those before it, negated (rule R142). -/
theorem sampleCos_reflect {q : Nat} (h1 : 1 ≤ q) (hq : q < 1024) :
    sampleCos q = if q = 512 then Fl.zero else fneg (sampleCos (1024 - q)) := by
  obtain ⟨i, rfl⟩ := Nat.exists_eq_add_of_le' h1
  have hlen : (scosTable.map Fl.ofWord).length = 1024 := by rw [List.length_map, scosTable_length]
  have hentry := congrArg (·[i]?) scosTable_reflect
  rw [List.getElem?_tail, getElem?_scosTable hq, List.getElem?_set, List.getElem?_map,
    getElem?_tail_reverse _ (by omega), hlen, getElem?_scosTable (by omega)] at hentry
  split_ifs at hentry with hmid hlt
  · rw [if_pos (by omega)]
    exact Option.some.inj hentry
  · rw [if_neg (by omega)]
    exact Option.some.inj hentry

/-- The sines are symmetric about the quarter turn (rule R142). -/
theorem romWord_ssin_reflect {q : Nat} (h1 : 1 ≤ q) (hq : q < 1024) :
    romWord romContents.ssin q = romWord romContents.ssin (1024 - q) := by
  obtain ⟨i, rfl⟩ := Nat.exists_eq_add_of_le' h1
  have hentry := congrArg (·[i]?) ssinTable_reflect
  rw [List.getElem?_tail, getElem?_ssinTable hq, getElem?_tail_reverse _ (by rw [ssinTable_length]; omega),
    ssinTable_length, getElem?_ssinTable (by omega)] at hentry
  exact Option.some.inj hentry

/-- Every entry of SCOS is the directly computed cosine (rules R134, R141). -/
theorem invCos_eq_sampleCos {q : Nat} (hq : q < 1024) : invCos q 1024 = sampleCos q := by
  have hlower {q : Nat} (hq : q < 512) : invCos q 1024 = sampleCos q := by
    rcases eq_or_ne q 0 with rfl | h0
    · rw [invCos_zero (by decide), sampleCos_zero]
    · exact (sampleCos_check h0 hq).1
  rcases Nat.lt_trichotomy q 512 with h | h | h
  · exact hlower h
  · rw [invCos_quarter (by omega), sampleCos_reflect (by omega) hq, if_pos h]
  · rw [invCos_upper (by omega) hq.le, hlower (by omega), sampleCos_reflect (q := q) (by omega) hq, if_neg h.ne']

/-- A sign does not matter to the derived sine, which squares the cosine (rule R135). -/
theorem derivedSin_fneg (c : Fl) : derivedSin (fneg c) = derivedSin c := by
  have hsq : fmul (fneg c) (fneg c) = fmul c c := by
    cases c with
    | nan => rfl
    | inf s => cases s <;> rfl
    | fin s m e => cases s <;> rfl
  rw [derivedSin, hsq, derivedSin]

/-- Every entry of SSIN is the sine derived from the one of SCOS (rule R135). -/
theorem sampleSin_eq_derivedSin {q : Nat} (hq : q < 1024) : sampleSin q = derivedSin (sampleCos q) := by
  have hlower {q : Nat} (hq : q ≤ 512) : sampleSin q = derivedSin (sampleCos q) := by
    have hpair : ((ssinTable.zip scosTable).take 513)[q]? =
        some (romWord romContents.ssin q, romWord romContents.scos q) := by
      rw [List.getElem?_take_of_lt (by omega)]
      exact List.getElem?_zip_eq_some.mpr
        ⟨getElem?_ssinTable (by omega), getElem?_eq_romWord (by rw [scosTable_length]; omega)⟩
    exact of_decide_eq_true (List.all_eq_true.mp ssinTable_check _ (List.mem_of_getElem? hpair))
  rcases Nat.lt_or_ge 512 q with h | h
  · rw [sampleSin, romWord_ssin_reflect (by omega) hq, sampleCos_reflect (by omega) hq, if_neg h.ne', derivedSin_fneg]
    exact hlower (by omega)
  · exact hlower h

/-- Settles O53: an entry of SSIN is the derived sine, which is the three operations. -/
theorem sampleSineIsDerived : Obligations.SampleSineIsDerived := fun _ hq => sampleSin_eq_derivedSin hq

/-- Up to div = 1024 the inverse twiddle is the forward one (rule R141). -/
theorem twI_eq_twF {j k : Nat} (hj : j ≤ 10) (hk : k < 2 ^ j) : twI k (2 ^ j) = twF romContents k (2 ^ j) := by
  have hpow : 2 ^ j * 2 ^ (10 - j) = 1024 := pow_mul_pow_sub 2 hj
  have hindex : sampleIndex k (2 ^ j) = k * 2 ^ (10 - j) := (sampleIndexQuantizes j k hk).2.2.1 hj
  have hlt : k * 2 ^ (10 - j) < 1024 := hpow ▸ Nat.mul_lt_mul_of_pos_right hk (Nat.two_pow_pos _)
  have hcos : invCos k (2 ^ j) = sampleCos (k * 2 ^ (10 - j)) := by
    rw [← invCos_mul k (2 ^ j) (Nat.two_pow_pos (10 - j)), hpow, invCos_eq_sampleCos hlt]
  rw [twI, twF, hindex, hcos, ← sampleSin_eq_derivedSin hlt]
  rfl

/-- Settles O52: SCOS and SSIN hold the inverse twiddles, and a cosine rounds a number within 2^(-124) of the real one. -/
theorem inverseTwiddleIsForward : Obligations.InverseTwiddleIsForward := by
  refine ⟨fun j k hj hk => twI_eq_twF hj hk, fun j _ => ⟨fun k hk => invCos_nearest hk,
    invCos_zero (Nat.two_pow_pos j), fun hj => invCos_quarter ?_⟩⟩
  rw [← pow_succ', Nat.sub_add_cancel hj]

/-! ### The rounded cosines and sines -/

/-- The entries of SCOS are the correctly rounded cosines (rule R134). -/
theorem sampleCos_roundsTo {q : Nat} (hq : q < 1024) : RoundsTo (Real.cos (Real.pi * q / 1024)) (sampleCos q) := by
  have hlower {q : Nat} (hq : q < 512) : RoundsTo (Real.cos (Real.pi * q / 1024)) (sampleCos q) := by
    rcases eq_or_ne q 0 with rfl | h0
    · simpa [sampleCos_zero] using roundsTo_one
    · have hnear := abs_cosFixed_sub_cos_le (k := q) (div := 1024) (by decide) (by omega)
      rw [Nat.cast_ofNat] at hnear
      have hunits : |Real.cos (Real.pi * q / 1024) * 2 ^ 149 - (cosFixed q 1024 * 2 ^ 21 : ℕ)| ≤ 2 ^ 25 := by
        have hscale : Real.cos (Real.pi * q / 1024) * 2 ^ 149 - (cosFixed q 1024 * 2 ^ 21 : ℕ) =
            (Real.cos (Real.pi * q / 1024) - cosFixed q 1024 / 2 ^ 128) * 2 ^ 149 := by push_cast; ring
        rw [hscale, abs_mul, abs_sub_comm, abs_of_pos (by positivity : (0 : ℝ) < 2 ^ 149)]
        exact (mul_le_mul_of_nonneg_right hnear (pow_nonneg two_pos.le 149)).trans_eq (by norm_num)
      have hround := roundsTo_of_roundsAround (sampleCos_check h0 hq).2 hunits
      rwa [mul_div_cancel_right₀ _ (by positivity)] at hround
  rcases Nat.lt_trichotomy q 512 with h | h | h
  · exact hlower h
  · have hangle : Real.pi * (512 : ℕ) / 1024 = Real.pi / 2 := by push_cast; ring
    rw [sampleCos_reflect (by omega) hq, if_pos h, h, hangle, Real.cos_pi_div_two]
    exact roundsTo_zero
  · have hsupp := cos_supplement (k := q) (div := 1024) (by decide) hq.le
    rw [Nat.cast_ofNat] at hsupp
    rw [hsupp, sampleCos_reflect (by omega) hq, if_neg h.ne']
    exact roundsTo_neg (hlower (by omega))

/-- BCOS up to the half turn holds every 64th entry of SCOS. -/
theorem bcos_eq_scos : ∀ m < 16, romWord romContents.bcos m = romWord romContents.scos (64 * m) := by decide +kernel

/-- BCOS beyond the half turn is the part before it, negated. -/
theorem bcos_add_halfTurn : ∀ m < 16, Fl.ofWord (romWord romContents.bcos (m + 16)) =
    if m = 8 then Fl.zero else fneg (Fl.ofWord (romWord romContents.bcos m)) := by decide +kernel

/-- BSIN is BCOS a quarter turn back, and BCOS is even, and odd about the quarter turn (rule R142). -/
theorem base_symmetries : ∀ m < 32,
    romWord romContents.bsin m = romWord romContents.bcos ((m + 24) % 32) ∧
    romWord romContents.bcos m = romWord romContents.bcos ((32 - m) % 32) ∧
    Fl.ofWord (romWord romContents.bcos m) =
      (if m = 8 ∨ m = 24 then Fl.zero else fneg (Fl.ofWord (romWord romContents.bcos ((48 - m) % 32)))) := by
  decide +kernel

/-- The entries of BCOS are the correctly rounded cosines (rule R131). -/
theorem bcos_roundsTo {m : Nat} (hm : m < 32) :
    RoundsTo (Real.cos (2 * Real.pi * m / 32)) (Fl.ofWord (romWord romContents.bcos m)) := by
  have hlower {m : Nat} (hm : m < 16) :
      RoundsTo (Real.cos (2 * Real.pi * m / 32)) (Fl.ofWord (romWord romContents.bcos m)) := by
    have hangle : 2 * Real.pi * m / 32 = Real.pi * (64 * m : ℕ) / 1024 := by push_cast; ring
    rw [hangle, bcos_eq_scos m hm]
    exact sampleCos_roundsTo (by omega)
  rcases Nat.lt_or_ge m 16 with h | h
  · exact hlower h
  obtain ⟨k, rfl⟩ := Nat.exists_eq_add_of_le' h
  have hangle : 2 * Real.pi * (k + 16 : ℕ) / 32 = 2 * Real.pi * k / 32 + Real.pi := by push_cast; ring
  rw [hangle, Real.cos_add_pi, bcos_add_halfTurn k (by omega)]
  split_ifs with hquarter
  · have hangle : 2 * Real.pi * (8 : ℕ) / 32 = Real.pi / 2 := by push_cast; ring
    rw [hquarter, hangle, Real.cos_pi_div_two, neg_zero]
    exact roundsTo_zero
  · exact roundsTo_neg (hlower (by omega))

/-- The entries of BSIN are the correctly rounded sines (rule R131). -/
theorem bsin_roundsTo {m : Nat} (hm : m < 32) :
    RoundsTo (Real.sin (2 * Real.pi * m / 32)) (Fl.ofWord (romWord romContents.bsin m)) := by
  have hturn : Real.sin (2 * Real.pi * m / 32) = Real.cos (2 * Real.pi * ((m + 24) % 32 : ℕ) / 32) := by
    rw [← Real.cos_sub_pi_div_two]
    rcases Nat.lt_or_ge m 8 with h | h
    · rw [Nat.mod_eq_of_lt (by omega), ← Real.cos_add_two_pi]
      congr 1; push_cast; ring
    · obtain ⟨k, rfl⟩ := Nat.exists_eq_add_of_le' h
      rw [show (k + 8 + 24) % 32 = k by omega]
      congr 1; push_cast; ring
  rw [hturn, (base_symmetries m hm).1]
  exact bcos_roundsTo (Nat.mod_lt _ (by decide))

/-- Settles O56: the rounded values by SCOS and its symmetries, the symmetries by the checks of the tables. -/
theorem romSymmetries : Obligations.RomSymmetries := by
  refine ⟨fun m hm => ?_, fun q hq => sampleCos_roundsTo hq,
    fun q h1 hq => ⟨romWord_ssin_reflect h1 hq, sampleCos_reflect h1 hq⟩⟩
  exact ⟨bcos_roundsTo hm, bsin_roundsTo hm, base_symmetries m hm⟩

end Sys2Proof.Machine
end

section
/-! SUPPORT. PERMUTE (rules R151 to R154): the words it moves, the bit reversal, the recursively split table, and the
source index as a bijection. -/

namespace Sys2Proof.Machine

/-! ### The words PERMUTE moves -/

/-- Words moved to a pair read back below N (rules R153, R197). -/
theorem moveWords_readWord_moved (r : Role) (re im : Nat → Word) (s : State) {i : Nat} (hi : i < s.nLat) :
    (s.moveWords r re im).readWord r.re i = re i ∧ (s.moveWords r re im).readWord r.im i = im i := by
  simp [State.moveWords, writeWords_readWord, role_re_ne_im, hi]

/-- PERMUTE changes the scratch banks, ROLE, the cursor and PHASE only (rule R153). -/
theorem permuted_frame (s : State) :
    s.permuted = { s with
      sr := s.permuted.sr, si := s.permuted.si, role := .s, cursor := List.range (sections s.nLat),
      phase := basePhase s.dir } := rfl

theorem permuted_readWord_above (s : State) (b : BankId) {i : Nat} (hi : s.nLat ≤ i) :
    s.permuted.readWord b i = s.readWord b i :=
  moveWords_readWord_above .s _ _ s b hi

/-- Settles O24: PERMUTE is a move of words from X to S. -/
theorem permuteMovesWords : Obligations.PermuteMovesWords := fun s =>
  ⟨s.permuted, rfl, permuted_frame s, fun _ hi => moveWords_readWord_moved .s _ _ s hi,
    fun _ hi => ⟨permuted_readWord_above s .sr hi, permuted_readWord_above s .si hi⟩⟩

/-! ### The bit reversal -/

theorem bitrev_succ (l n : Nat) : bitrev (l + 1) n = 2 ^ l * (n % 2) + bitrev l (n / 2) := by
  rw [bitrev, Nat.shiftLeft_eq, Nat.mul_comm]

/-- The reversal splits off its top bit as well: it becomes the lowest. -/
theorem bitrev_succ_top (l n : Nat) : bitrev (l + 1) n = 2 * bitrev l n + n / 2 ^ l % 2 := by
  induction l generalizing n with
  | zero => simp [bitrev]
  | succ l ih =>
    have hbit : n / 2 / 2 ^ l = n / 2 ^ (l + 1) := by rw [Nat.div_div_eq_div_mul, Nat.pow_succ']
    rw [bitrev_succ, ih, hbit, bitrev_succ l]
    ring

/-- The reversal of l bits does not see bit l. -/
theorem bitrev_two_pow_add (l n : Nat) : bitrev l (2 ^ l + n) = bitrev l n := by
  induction l generalizing n with
  | zero => rfl
  | succ l ih =>
    have hmod : (2 ^ (l + 1) + n) % 2 = n % 2 := by omega
    have hdiv : (2 ^ (l + 1) + n) / 2 = 2 ^ l + n / 2 := by omega
    rw [bitrev_succ, hmod, hdiv, ih, ← bitrev_succ]

/-- Reversing twice gives the low l bits back: the top bit goes to the bottom and returns (rule R152). -/
theorem bitrev_bitrev (l n : Nat) : bitrev l (bitrev l n) = n % 2 ^ l := by
  induction l generalizing n with
  | zero => exact (Nat.mod_one n).symm
  | succ l ih =>
    have hmod : (2 * bitrev l n + n / 2 ^ l % 2) % 2 = n / 2 ^ l % 2 := by omega
    have hdiv : (2 * bitrev l n + n / 2 ^ l % 2) / 2 = bitrev l n := by omega
    rw [bitrev_succ_top l n, bitrev_succ, hmod, hdiv, ih, Nat.mod_pow_succ, Nat.add_comm]

/-! ### The recursively split table -/

theorem evensOdds_map_range {α : Type} (f : Nat → α) (m : Nat) :
    evensOdds ((List.range (2 * m)).map f) =
      ((List.range m).map fun i => f (2 * i), (List.range m).map fun i => f (2 * i + 1)) := by
  induction m generalizing f with
  | zero => rfl
  | succ m ih =>
    have hrange : (List.range (2 * (m + 1))).map f = f 0 :: f 1 :: (List.range (2 * m)).map fun i => f (i + 2) := by
      simp [Nat.mul_succ, List.range_succ_eq_map, Function.comp_def]
    rw [hrange, evensOdds, evensOdds, ih, List.range_succ_eq_map]
    simp [Function.comp_def, Nat.mul_succ, Nat.add_right_comm]

/-- Splitting l times puts at each place the element at its reversal (rule R151). -/
theorem splitTable_map_range {α : Type} (l : Nat) (f : Nat → α) :
    splitTable l ((List.range (2 ^ l)).map f) = (List.range (2 ^ l)).map fun i => f (bitrev l i) := by
  induction l generalizing f with
  | zero => rfl
  | succ l ih =>
    have hlower {i : Nat} (hi : i < 2 ^ l) : bitrev (l + 1) i = 2 * bitrev l i := by
      rw [bitrev_succ_top, Nat.div_eq_of_lt hi, Nat.zero_mod, Nat.add_zero]
    have hupper {i : Nat} (hi : i < 2 ^ l) : bitrev (l + 1) (2 ^ l + i) = 2 * bitrev l i + 1 := by
      rw [bitrev_succ_top, bitrev_two_pow_add, Nat.add_div_left _ (Nat.two_pow_pos l), Nat.div_eq_of_lt hi]
    rw [splitTable, Nat.pow_succ', evensOdds_map_range, ih, ih, Nat.two_mul, List.range_add, List.map_append,
      List.map_map]
    congr 1 <;> refine List.map_congr_left fun i hi => ?_
    · rw [hlower (List.mem_range.mp hi)]
    · rw [Function.comp_apply, hupper (List.mem_range.mp hi)]

/-- Settles O26: the table splits the identity, and the reversal of l bits is its own inverse. -/
theorem permTableIsBitReversal : Obligations.PermTableIsBitReversal := by
  refine fun l => ⟨?_, fun i hi => ⟨bitrev_lt l i, by rw [bitrev_bitrev, Nat.mod_eq_of_lt hi]⟩⟩
  rw [permTable, Nat.log2_two_pow]
  simpa using splitTable_map_range l id

/-! ### The source index -/

theorem permuteSource_two_pow {k : Nat} (hk : 5 ≤ k) (i : Nat) :
    permuteSource (2 ^ k) i = 2 ^ (k - 5) * (i % 32) + bitrev (k - 5) (i / 32) := by
  rw [permuteSource, sections_two_pow hk, Nat.log2_two_pow, Config.B]

/-- The quotient of a source index is the slot, its remainder the reversed section (rule R153). -/
theorem permuteSource_div_mod {k : Nat} (hk : 5 ≤ k) (i : Nat) :
    permuteSource (2 ^ k) i / 2 ^ (k - 5) = i % 32 ∧
      permuteSource (2 ^ k) i % 2 ^ (k - 5) = bitrev (k - 5) (i / 32) := by
  have hrev := bitrev_lt (k - 5) (i / 32)
  rw [permuteSource_two_pow hk, Nat.mul_add_div (Nat.two_pow_pos _), Nat.div_eq_of_lt hrev, Nat.mul_add_mod,
    Nat.mod_eq_of_lt hrev]
  exact ⟨rfl, rfl⟩

/-- Indices below N with the same source have the same slot and, as the reversal is its own inverse, the same
section. -/
theorem permuteSource_injOn {k : Nat} (hk : 5 ≤ k) : Set.InjOn (permuteSource (2 ^ k)) (Set.Iio (2 ^ k)) := by
  intro i hi j hj hij
  have hsection {m : Nat} (hm : m < 2 ^ k) : bitrev (k - 5) (bitrev (k - 5) (m / 32)) = m / 32 := by
    rw [bitrev_bitrev, Nat.mod_eq_of_lt (Nat.div_lt_of_lt_mul (by rwa [← pow_mul_pow_sub 2 hk] at hm))]
  obtain ⟨hslot, hrev⟩ := permuteSource_div_mod hk i
  obtain ⟨hslot', hrev'⟩ := permuteSource_div_mod hk j
  have hmod : i % 32 = j % 32 := by rw [← hslot, hij, hslot']
  have hdiv : i / 32 = j / 32 := by rw [← hsection hi, ← hrev, hij, hrev', hsection hj]
  rw [← Nat.div_add_mod i 32, hdiv, hmod, Nat.div_add_mod]

/-- Settles O25: an injection of the finite [0, N) into itself. -/
theorem permuteSourceIsBijection : Obligations.PermuteSourceIsBijection := by
  intro k hk
  have hlen : LegalLength { Params.default with log2Nmax := k } (2 ^ k) := ⟨k, hk, le_rfl, rfl⟩
  exact ((Set.finite_Iio _).injOn_iff_bijOn_of_mapsTo fun i _ => permuteSource_lt hlen i).mp (permuteSource_injOn hk)

end Sys2Proof.Machine
end

section
/-! SUPPORT. COPYBACK (rule R197): the words it moves and what follows it. -/

namespace Sys2Proof.Machine

/-- COPYBACK changes the data banks and ROLE only, before the next phase is chosen (rule R197). -/
theorem copiedBack_frame (s : State) :
    s.copiedBack = { s with xr := s.copiedBack.xr, xi := s.copiedBack.xi, role := .x } := rfl

@[simp] theorem copiedBack_dir (s : State) : s.copiedBack.dir = s.dir := moveWords_dir ..

theorem copiedBack_readWord_above (s : State) (b : BankId) {i : Nat} (hi : s.nLat ≤ i) :
    s.copiedBack.readWord b i = s.readWord b i :=
  moveWords_readWord_above .x _ _ s b hi

theorem normalizeOrComplete_of_inv {s : State} (h : s.dir = .inv) :
    s.normalizeOrComplete = { s with phase := .normalize } := by
  rw [State.normalizeOrComplete, h]

theorem normalizeOrComplete_of_fwd {s : State} (h : s.dir = .fwd) : s.normalizeOrComplete = s.complete := by
  rw [State.normalizeOrComplete, h]

/-- Settles O33: COPYBACK is a move of words from S to X, and the direction chooses what follows. -/
theorem copybackMovesResult : Obligations.CopybackMovesResult := by
  intro s
  refine ⟨s.copiedBack.normalizeOrComplete, rfl, fun hd => ?_, fun hd => ?_, fun i hi => ?_, fun i hi => ?_⟩
  · rw [normalizeOrComplete_of_inv ((copiedBack_dir s).trans hd)]
    rfl
  · rw [normalizeOrComplete_of_fwd ((copiedBack_dir s).trans hd)]
    rfl
  · rw [normalizeOrComplete_readWord, normalizeOrComplete_readWord]
    exact moveWords_readWord_moved .x _ _ s hi
  · rw [normalizeOrComplete_readWord, normalizeOrComplete_readWord]
    exact ⟨copiedBack_readWord_above s .xr hi, copiedBack_readWord_above s .xi hi⟩

end Sys2Proof.Machine
end

section
/-! SUPPORT. How many steps a command takes (rules R240, R241): at each phase a number of steps is left, and every step
of the sequencer leaves one less. -/

namespace Sys2Proof.Machine

/-! ### The steps that are left -/

/-- The NORMALIZE step of an inverse command (rule R220). -/
def normalizeSteps : Dir → Nat
  | .fwd => 0
  | .inv => 1

/-- The steps after the last merge stage: COPYBACK when M is even, NORMALIZE when the command is inverse (rule R241). -/
def closingSteps (n : Nat) (d : Dir) : Nat := (if mergeStages n % 2 = 0 then 1 else 0) + normalizeSteps d

/-- The steps left of a command of length n, by the phase it is at (rule R241). -/
def State.stepsLeft (n : Nat) (s : State) : Nat :=
  match s.phase with
  | .idle => 0
  | .validate => 2 + sections n + mergeStages n + closingSteps n s.dir
  | .permute => 1 + sections n + mergeStages n + closingSteps n s.dir
  | .baseFwd | .baseInv => s.cursor.length + mergeStages n + closingSteps n s.dir
  | .mergeFwd | .mergeInv => mergeStages n - s.stage.toNat + closingSteps n s.dir
  | .copyback => 1 + normalizeSteps s.dir
  | .normalize => 1

theorem stepsLeft_of_idle {s : State} (h : s.phase = .idle) (n : Nat) : s.stepsLeft n = 0 := by
  simp only [State.stepsLeft, h]

theorem stepsLeft_of_base {d : Dir} {s : State} (h : s.phase = basePhase d) (n : Nat) :
    s.stepsLeft n = s.cursor.length + mergeStages n + closingSteps n s.dir := by
  cases d <;> simp only [State.stepsLeft, h, basePhase]

theorem stepsLeft_of_merge {d : Dir} {s : State} (h : s.phase = mergePhase d) (n : Nat) :
    s.stepsLeft n = mergeStages n - s.stage.toNat + closingSteps n s.dir := by
  cases d <;> simp only [State.stepsLeft, h, mergePhase]

theorem commandSteps_eq (d : Dir) (k : Nat) :
    commandSteps d k = 2 + sections (2 ^ k) + mergeStages (2 ^ k) + closingSteps (2 ^ k) d := by
  rw [closingSteps, mergeStages_two_pow, ← Nat.add_assoc]
  cases d <;> rfl

/-! ### A command of length n that no host event interrupts -/

/-- A command of length n, from VALIDATE to its completion, with no host event pending: its lengths pass VALIDATE, or
n is latched; no error is raised; and at the end it is done after M stages (rules R234, R240, R241). -/
structure State.Running (n : Nat) (s : State) : Prop where
  host     : s.host = []
  err      : s.err = .none
  passes   : s.phase = .validate → execValidate s = .next { s with nLat := n, role := .x, phase := .permute }
  latched  : s.phase ≠ .validate → s.nLat = n
  finished : s.phase = .idle → s.done = true ∧ s.stage.toNat = mergeStages n

/-- Between VALIDATE and completion, the length is latched and nothing else is to be known. -/
theorem running_of_phase {n : Nat} {s : State} (hhost : s.host = []) (herr : s.err = .none) (hn : s.nLat = n)
    (hv : s.phase ≠ .validate) (hidle : s.phase ≠ .idle) : s.Running n :=
  ⟨hhost, herr, fun h => absurd h hv, fun _ => hn, fun h => absurd h hidle⟩

theorem basePhase_ne_validate (d : Dir) : basePhase d ≠ .validate := by cases d <;> decide
theorem mergePhase_ne_validate (d : Dir) : mergePhase d ≠ .validate := by cases d <;> decide

/-- Completion after M stages. -/
theorem complete_running {n : Nat} {s : State} (hhost : s.host = []) (herr : s.err = .none) (hn : s.nLat = n)
    (hstage : s.stage.toNat = mergeStages n) : s.complete.Running n :=
  ⟨hhost, herr, nofun, fun _ => hn, fun _ => ⟨rfl, hstage⟩⟩

theorem normalizeOrComplete_running {n : Nat} {s : State} (hhost : s.host = []) (herr : s.err = .none)
    (hn : s.nLat = n) (hstage : s.stage.toNat = mergeStages n) :
    s.normalizeOrComplete.Running n ∧ s.normalizeOrComplete.stepsLeft n = normalizeSteps s.dir := by
  cases hd : s.dir with
  | inv =>
    rw [normalizeOrComplete_of_inv hd]
    exact ⟨running_of_phase hhost herr hn nofun nofun, rfl⟩
  | fwd =>
    rw [normalizeOrComplete_of_fwd hd]
    exact ⟨complete_running hhost herr hn hstage, rfl⟩

/-- At Tail, with ROLE following the parity of STAGE, the stages that are not done are left, COPYBACK when M is even,
and NORMALIZE when the command is inverse (rules R198, R241). -/
theorem tail_running {n : Nat} {s : State} (hhost : s.host = []) (herr : s.err = .none) (hn : s.nLat = n)
    (hstage : s.stage.toNat ≤ mergeStages n) (hr : s.role = if s.stage.toNat % 2 = 0 then .s else .x) :
    s.tail.Running n ∧ s.tail.stepsLeft n = mergeStages n - s.stage.toNat + closingSteps n s.dir := by
  subst hn
  rcases hstage.lt_or_eq with hmore | hlast
  · have htail : s.tail = { s with phase := mergePhase s.dir } := if_pos hmore
    rw [htail]
    exact ⟨running_of_phase hhost herr rfl (mergePhase_ne_validate _) (mergePhase_ne_idle _), stepsLeft_of_merge rfl _⟩
  · rw [State.tail, if_neg hlast.not_lt, closingSteps, hlast, Nat.sub_self, Nat.zero_add]
    rw [hlast] at hr
    split_ifs at hr ⊢ with heven <;> rw [hr]
    · exact ⟨running_of_phase hhost herr rfl nofun nofun, rfl⟩
    · rw [Nat.zero_add]
      exact normalizeOrComplete_running hhost herr rfl hlast

/-! ### Every micro-operation leaves one step less -/

@[simp] theorem moveWords_err (r : Role) (re im : Nat → Word) (s : State) : (s.moveWords r re im).err = s.err := by
  simp [State.moveWords]

@[simp] theorem afterSection_err (d : Dir) (j sec : Nat) (s : State) : (s.afterSection d j sec).err = s.err :=
  writePairs_err ..

@[simp] theorem afterStage_err (d : Dir) (s : State) : (s.afterStage d).err = s.err := writePairs_err ..

theorem validated_running {n : Nat} {s : State} (h : s.Running n) (hp : s.phase = .validate) :
    let t := { s with nLat := n, role := .x, phase := .permute }
    t.Running n ∧ t.stepsLeft n + 1 = s.stepsLeft n := by
  refine ⟨running_of_phase h.host h.err rfl nofun nofun, ?_⟩
  simp only [State.stepsLeft, hp]
  omega

theorem permuted_running {n : Nat} {s : State} (h : s.Running n) (hp : s.phase = .permute) :
    s.permuted.Running n ∧ s.permuted.stepsLeft n + 1 = s.stepsLeft n := by
  have hn : s.nLat = n := h.latched (by simp [hp])
  refine ⟨running_of_phase ((moveWords_host ..).trans h.host) ((moveWords_err ..).trans h.err)
    ((moveWords_nLat ..).trans hn) (basePhase_ne_validate _) (basePhase_ne_idle _), ?_⟩
  have hcursor : s.permuted.cursor.length = sections n := by rw [← hn]; exact List.length_range
  have hdir : s.permuted.dir = s.dir := moveWords_dir ..
  rw [stepsLeft_of_base (d := s.dir) rfl, hcursor, hdir]
  simp only [State.stepsLeft, hp]
  omega

/-- A BASE step takes one section off the cursor, and Tail follows the last one. -/
theorem baseStep_running {n : Nat} {d : Dir} {s : State} (h : s.Running n) (hi : s.Inv)
    (hp : s.phase = basePhase d) : (s.baseStep d).Running n ∧ (s.baseStep d).stepsLeft n + 1 = s.stepsLeft n := by
  have hb : s.InBase d := hi.inBase hp
  have hn : s.nLat = n := h.latched (hp ▸ basePhase_ne_validate d)
  obtain ⟨j, hj, hstep⟩ := baseStep_cases d hb.nonempty
  have herase : (s.cursor.eraseIdx j).length + 1 = s.cursor.length := by
    rw [List.length_eraseIdx_of_lt hj]; omega
  rw [hstep, stepsLeft_of_base hp]
  split_ifs with hlast
  · have hstage : (s.afterSection d j s.cursor[j]).stage.toNat = 0 := by simp [hb.stage]
    obtain ⟨hrun, hleft⟩ := tail_running (n := n) (s := s.afterSection d j s.cursor[j])
      (by simp [h.host]) (by simp [h.err]) (by simp [hn]) (by simp [hb.stage]) (by simp [hb.stage, hb.role])
    refine ⟨hrun, ?_⟩
    rw [hleft, hstage, afterSection_dir, ← herase, hlast, List.length_nil]
    omega
  · have hphase : (s.afterSection d j s.cursor[j]).phase = basePhase d := (afterSection_phase ..).trans hp
    refine ⟨running_of_phase (by simp [h.host]) (by simp [h.err]) (by simp [hn])
      (hphase ▸ basePhase_ne_validate d) (hphase ▸ basePhase_ne_idle d), ?_⟩
    rw [stepsLeft_of_base hphase, afterSection_cursor, afterSection_dir, ← herase]
    omega

/-- A MERGE step is one stage and then Tail: where more stages follow, Tail keeps the phase (rule R241). -/
theorem mergeStep_eq_tail {d : Dir} {s : State} (hp : s.phase = mergePhase d) (hd : s.dir = d) :
    s.mergeStep d = (s.afterStage d).tail := by
  rw [mergeStep_eq]
  split_ifs with hmore
  · have hphase : (s.afterStage d).phase = mergePhase (s.afterStage d).dir := by
      rw [afterStage_phase, afterStage_dir, hp, hd]
    rw [State.tail, if_pos hmore, ← hphase]
  · rfl

theorem mergeStep_running {n : Nat} {d : Dir} {s : State} (h : s.Running n) (hi : s.Inv)
    (hp : s.phase = mergePhase d) : (s.mergeStep d).Running n ∧ (s.mergeStep d).stepsLeft n + 1 = s.stepsLeft n := by
  have hm : s.InMerge d := hi.inMerge hp
  have hn : s.nLat = n := h.latched (hp ▸ mergePhase_ne_validate d)
  have hmore : s.stage.toNat < mergeStages n := hn ▸ hm.stage
  have hcount : (s.afterStage d).stage.toNat = s.stage.toNat + 1 := by
    have hle := hm.stage.trans_le (hm.length.mergeStages_le hi.params)
    rw [afterStage_stage]
    bv_omega
  obtain ⟨hrun, hleft⟩ := tail_running (n := n) (s := s.afterStage d) (by simp [h.host]) (by simp [h.err])
    (by simp [hn]) (by rw [hcount]; exact hmore) (by rw [hcount]; exact role_other_of_parity hm.role)
  rw [mergeStep_eq_tail hp hm.dir]
  refine ⟨hrun, ?_⟩
  rw [hleft, hcount, stepsLeft_of_merge hp, afterStage_dir]
  omega

theorem copiedBack_running {n : Nat} {s : State} (h : s.Running n) (hi : s.Inv) (hp : s.phase = .copyback) :
    s.copiedBack.normalizeOrComplete.Running n ∧
      s.copiedBack.normalizeOrComplete.stepsLeft n + 1 = s.stepsLeft n := by
  have hn : s.nLat = n := h.latched (by simp [hp])
  obtain ⟨-, -, hstage, -⟩ := hi.atCopyback hp
  obtain ⟨hrun, hleft⟩ := normalizeOrComplete_running (n := n) (s := s.copiedBack)
    ((moveWords_host ..).trans h.host) ((moveWords_err ..).trans h.err) ((moveWords_nLat ..).trans hn)
    (by rw [← hn, ← hstage]; exact congrArg BitVec.toNat (moveWords_stage ..))
  refine ⟨hrun, ?_⟩
  rw [hleft, copiedBack_dir]
  simp only [State.stepsLeft, hp]
  omega

theorem normalized_running {n : Nat} {s : State} (h : s.Running n) (hi : s.Inv) (hp : s.phase = .normalize) :
    s.normalized.Running n ∧ s.normalized.stepsLeft n + 1 = s.stepsLeft n := by
  have hn : s.nLat = n := h.latched (by simp [hp])
  obtain ⟨-, -, hstage, -⟩ := hi.atNormalize hp
  refine ⟨complete_running (by simp [h.host]) (by simp [h.err]) (by simp [hn]) (by simp [hstage, hn]), ?_⟩
  simp only [State.stepsLeft, hp, State.normalized, complete_phase]

/-! ### Steps and runs -/

/-- Every phase but IDLE names a micro-operation (rule R84). -/
theorem exists_microOp {p : Phase} (h : p ≠ .idle) : ∃ i, decode (.phase p.code) = .ok i := by
  cases p with
  | idle => exact absurd rfl h
  | _ => exact ⟨_, rfl⟩

/-- With no event pending and BUSY = 1, a step runs the micro-operation of PHASE (rules R84, R241). -/
theorem step_eq_exec {s : State} (hhost : s.host = []) (hbusy : s.busy = true) {i : Instr}
    (hd : decode (.phase s.phase.code) = .ok i) : step s = exec i s := by
  simp only [step, fetch, hhost, sequencerTurn, hbusy, if_true, hd]

/-- A step of a running command leaves one step less. -/
theorem step_running {n : Nat} {s : State} (h : s.Running n) (hi : s.Inv) (hidle : s.phase ≠ .idle) :
    ∃ t, step s = .next t ∧ t.Running n ∧ t.stepsLeft n + 1 = s.stepsLeft n := by
  obtain ⟨i, hd⟩ := exists_microOp hidle
  rw [step_eq_exec h.host (hi.busy_of_phase hidle) hd]
  obtain ⟨hp, hx⟩ | ⟨hp, hx⟩ | ⟨d, hp, hx⟩ | ⟨d, hp, hx⟩ | ⟨hp, hx⟩ | ⟨hp, hx⟩ := microOp_cases hd <;> rw [hx]
  · exact ⟨_, h.passes hp, validated_running h hp⟩
  · exact ⟨_, rfl, permuted_running h hp⟩
  · exact ⟨_, rfl, baseStep_running h hi hp⟩
  · exact ⟨_, rfl, mergeStep_running h hi hp⟩
  · exact ⟨_, rfl, copiedBack_running h hi hp⟩
  · exact ⟨_, rfl, normalized_running h hi hp⟩

/-- A running command is at IDLE exactly when no step is left. -/
theorem stepsLeft_eq_zero_iff {n : Nat} {s : State} (h : s.Running n) (hi : s.Inv) :
    s.stepsLeft n = 0 ↔ s.phase = .idle := by
  refine ⟨fun hleft => ?_, fun hp => stepsLeft_of_idle hp n⟩
  by_contra hidle
  obtain ⟨t, -, -, hone⟩ := step_running h hi hidle
  omega

theorem run_succ {M : Host.Core} {s t : M.State} (h : M.step s = .next t) (j : Nat) : M.run (j + 1) s = M.run j t := by
  rw [Host.Core.run, h]

/-- A run no longer than the steps that are left succeeds and leaves that many less. -/
theorem run_running {n : Nat} (j : Nat) {s : State} (h : s.Running n) (hi : s.Inv) (hj : j ≤ s.stepsLeft n) :
    ∃ t, Host.Core.run core j s = .next t ∧ t.Running n ∧ t.Inv ∧ t.stepsLeft n + j = s.stepsLeft n := by
  induction j generalizing s with
  | zero => exact ⟨s, rfl, h, hi, rfl⟩
  | succ j ih =>
    have hidle : s.phase ≠ .idle := fun hp => by rw [stepsLeft_of_idle hp] at hj; omega
    obtain ⟨u, hstep, hu, hone⟩ := step_running h hi hidle
    obtain ⟨t, hrun, ht, hti, hleft⟩ := ih hu (stepKeepsInv _ _ hi hstep) (by omega)
    exact ⟨t, (run_succ (M := core) hstep j).trans hrun, ht, hti, by omega⟩

/-! ### The whole command -/

/-- A power of two from 32 on passes the length check of VALIDATE (rules R234, R237). -/
theorem invalidLength_two_pow {a : Word} {k : Nat} (hk : 5 ≤ k) (ha : a.toNat = 2 ^ k) : invalidLength a = false := by
  have hge : 32 ≤ a.toNat := (Nat.pow_le_pow_right Nat.two_pos hk).trans_eq ha.symm
  have hsub : (a - 1#32).toNat = a.toNat - 1 := by bv_omega
  have hand : a &&& (a - 1#32) = 0#32 := by
    apply BitVec.eq_of_toNat_eq
    rw [BitVec.toNat_and, hsub]
    exact (Nat.and_sub_one_eq_zero_iff_isPowerOfTwo (by omega)).mpr ⟨k, ha⟩
  have hne : a ≠ 0#32 := fun h => by simp [h] at hge
  have hblt : a.toNat.blt Config.B = false := by
    rw [Bool.eq_false_iff, ne_eq, Nat.blt_eq]
    exact hge.not_gt
  simp [invalidLength, hand, hne, hblt]

theorem execValidate_two_pow {s : State} {k : Nat} (hlen : s.lenRe = s.lenIm) (hn : s.lenRe.toNat = 2 ^ k)
    (hk : 5 ≤ k) (hmax : k ≤ s.cfg.log2Nmax) :
    execValidate s = .next { s with nLat := 2 ^ k, role := .x, phase := .permute } := by
  have hfits : s.lenRe.toNat ≤ s.cfg.nmax := hn.trans_le (Nat.pow_le_pow_right Nat.two_pos hmax)
  rw [execValidate, if_neg (not_not.mpr hlen), if_neg (by simp [invalidLength_two_pow hk hn]),
    if_neg hfits.not_gt, hn]

/-- Settles O58: a command that passes VALIDATE has that many steps left, each leaves one less, and IDLE is where none
is left. -/
theorem commandTakesExactSteps : Obligations.CommandTakesExactSteps := by
  intro s k hi hp hhost hlen hn hk hmax
  obtain ⟨-, hclean, -⟩ := hi.control
  have hstart : s.Running (2 ^ k) :=
    ⟨hhost, (hclean (hi.busy_of_phase (by simp [hp]))).2, fun _ => execValidate_two_pow hlen hn hk hmax,
      fun h => absurd hp h, fun h => by simp [hp] at h⟩
  have hsteps : commandSteps s.dir k = s.stepsLeft (2 ^ k) := by
    simp only [State.stepsLeft, hp, commandSteps_eq]
  rw [hsteps]
  constructor
  · obtain ⟨t, hrun, ht, hti, hleft⟩ := run_running _ hstart hi le_rfl
    have hidle : t.phase = .idle := (stepsLeft_eq_zero_iff ht hti).mp (by omega)
    obtain ⟨hdone, hstage⟩ := ht.finished hidle
    refine ⟨t, hrun, ?_, hdone, ht.err, hidle, (hti.atIdle hidle).1, ?_, ht.latched (by simp [hidle])⟩
    · exact Bool.eq_false_iff.mpr fun hb => hti.control.1.mp hb hidle
    · rw [hstage, mergeStages_two_pow]
  · intro j hj
    obtain ⟨u, hrun, hu, hui, hleft⟩ := run_running j hstart hi hj.le
    refine ⟨u, hrun, hui.busy_of_phase fun hidle => ?_⟩
    rw [stepsLeft_of_idle hidle] at hleft
    omega

end Sys2Proof.Machine
end

section
/-! SUPPORT. NORMALIZE (rules R220 to R224): the words it divides, and its divisor, the exact power of two N, by which
dividing is multiplying by 1/N. -/

namespace Sys2Proof.Machine

/-! ### The words NORMALIZE divides -/

/-- NORMALIZE changes the data banks and the draw counter, and the command completes (rules R220, R240). -/
theorem normalized_frame (s : State) :
    s.normalized = { s with
      xr := s.normalized.xr, xi := s.normalized.xi, phase := .idle, busy := false, done := true,
      draws := s.draws + 1 } := rfl

/-- Settles O34: NORMALIZE writes the divided values to X below N, and nothing from N on. -/
theorem normalizeDividesByN : Obligations.NormalizeDividesByN := by
  intro s
  refine ⟨s.normalized, rfl, normalized_frame s, fun i hi => ?_, fun i hi => ?_⟩
  · rw [normalized_readPair, if_pos ⟨rfl, hi⟩]
  · exact ⟨normalized_readWord_above s .xr hi, normalized_readWord_above s .xi hi⟩

/-! ### Rounding depends on the quotient only -/

theorem roundHalfEven_mul_right (num den : Nat) {c : Nat} (hc : 0 < c) :
    roundHalfEven (num * c) (den * c) = roundHalfEven num den := by
  simp only [roundHalfEven, Bool.cond_eq_ite, Nat.blt_eq, Nat.mul_mod_mul_right, Nat.mul_div_mul_right _ _ hc,
    ← mul_assoc, Nat.mul_lt_mul_right hc]

theorem roundHalfEven_of_exact (q : Nat) {den : Nat} (hden : 0 < den) : roundHalfEven (q * den) den = q := by
  simpa [roundHalfEven_one] using roundHalfEven_mul_right q 1 hden

/-- `rn32` rounds a quotient, however it is written as a fraction. -/
theorem rn32_mul_right (neg : Bool) (num den : Nat) {c : Nat} (hc : 0 < c) :
    rn32 neg (num * c) (den * c) = rn32 neg num den := by
  rw [rn32_eq_carryFl, rn32_eq_carryFl, Nat.mul_div_mul_right _ _ hc, Nat.shiftLeft_eq, Nat.shiftLeft_eq,
    Nat.mul_right_comm, roundHalfEven_mul_right _ _ hc]

/-! ### The divisor -/

theorem bitLog_two_pow {k : Nat} (hk : k < 1024) : bitLog (2 ^ k) = k := by
  obtain ⟨hle, hlt⟩ := bitLog_spec (2 ^ k) (Nat.two_pow_pos k) (by gcongr; exact one_lt_two)
  have := (Nat.pow_le_pow_iff_right one_lt_two).mp hle
  have := (Nat.pow_lt_pow_iff_right one_lt_two).mp hlt
  omega

/-- A power of two in the range of binary32 is its own RN32 (rule R223). -/
theorem ofNat_two_pow {n : Nat} (hn : n < 128) : Fl.ofNat (2 ^ n) = .fin false (2 ^ 23) (126 + n) := by
  have hnum : 2 ^ n * 2 ^ 149 = 2 ^ 23 * 2 ^ (126 + n) := by ring
  have hsig : roundHalfEven (2 ^ n * 2 ^ 149) (2 ^ (126 + n)) = 2 ^ 23 := by
    rw [hnum, roundHalfEven_of_exact _ (Nat.two_pow_pos _)]
  have hexp : bitLog (2 ^ n * 2 ^ 149 / 1) - 23 = 126 + n := by
    rw [Nat.div_one, ← pow_add, bitLog_two_pow (by omega)]
    omega
  rw [Fl.ofNat, Nat.shiftLeft_eq, rn32_eq_carryFl, hexp, Nat.one_shiftLeft, hsig, carryFl_of_ne (by decide),
    packFl_of_lt (by omega)]

/-- A finite value times 2^(-n) and divided by 2^n is one quotient: numerator and denominator of the product, times
2^n, are those of the division (rule R223). -/
theorem fmul_fin_inv_two_pow (s : Bool) (m e : Nat) {n : Nat} (hn : n ≤ 126) :
    fmul (.fin s m e) (.fin false (2 ^ 23) (126 - n)) = fdiv (.fin s m e) (.fin false (2 ^ 23) (126 + n)) := by
  have hunit : 2 ^ 23 * 2 ^ (126 - n) * 2 ^ n = 2 ^ 149 := by
    rw [mul_assoc, ← pow_add, Nat.sub_add_cancel hn, ← pow_add]
  have hden : 2 ^ 149 * 2 ^ n = 2 ^ 23 * 2 ^ (126 + n) := by ring
  rw [fmul_fin, fdiv_fin s m e (by decide), Bool.xor_false, ← rn32_mul_right s _ _ (Nat.two_pow_pos n), hden,
    mul_assoc, hunit]

/-- Settles O35: the length is an exact power of two, a NaN and an infinity pass through both operations, and a finite
value gives the same quotient in both. -/
theorem scalerDivisionIsMultiplication : Obligations.ScalerDivisionIsMultiplication := by
  intro n _ hn
  refine ⟨ofNat_two_pow (by omega), fun x _ => ?_⟩
  rw [ofNat_two_pow (by omega)]
  cases x with
  | nan => rfl
  | inf s => rw [(fmul_inf_fin s false (by decide) _).1, Bool.xor_false, fdiv]
  | fin s m e => exact fmul_fin_inv_two_pow s m e (by omega)

end Sys2Proof.Machine
end

section
/-! SUPPORT. The commands: words written to CMD, the checks of VALIDATE in their order, the choice Tail makes, and that
the machine always steps (rules R230 to R243, R266). -/

namespace Sys2Proof.Machine

/-! ### Progress -/

/-- A micro-operation always has a next state (rule R266). -/
theorem exec_microOp_next {p : Phase} {i : Instr} (hd : decode (.phase p.code) = .ok i) (s : State) :
    ∃ t, exec i s = .next t := by
  obtain ⟨-, hx⟩ | ⟨-, hx⟩ | ⟨d, -, hx⟩ | ⟨d, -, hx⟩ | ⟨-, hx⟩ | ⟨-, hx⟩ := microOp_cases hd <;> rw [hx]
  · obtain ⟨e, he⟩ | ⟨-, he⟩ := execValidate_cases s <;> exact ⟨_, he⟩
  all_goals exact ⟨_, rfl⟩

/-- A bus transaction always has a next state (rule R266). -/
theorem exec_decodeBus_next (a : BusTriple) (s : State) : ∃ t, exec (decodeBus a) s = .next t := by
  rcases exec_decodeBus a s with hx | hx <;> exact ⟨_, hx⟩

/-- The sequencer's turn always has a next state, but with BUSY = 1 at IDLE (rule R243, log 17). -/
theorem step_next_of_turn {s u : State} (hf : fetch s = sequencerTurn u) (h : u.busy = true → u.phase ≠ .idle) :
    ∃ t, step s = .next t := by
  cases hb : u.busy with
  | false => exact ⟨u, step_of_turn_not_busy hf hb⟩
  | true =>
    obtain ⟨i, hd⟩ := exists_microOp (h hb)
    rw [step_of_turn_busy hf hb hd]
    exact exec_microOp_next hd u

/-- Settles O12, by what the step finds to do: no event stops, and the invariant keeps the sequencer off IDLE while
BUSY = 1. -/
theorem invStateAlwaysSteps : Obligations.InvStateAlwaysSteps := by
  intro s h
  obtain ⟨hbusy, -, -⟩ := h.control
  cases hhost : s.host with
  | nil => exact step_next_of_turn (fetch_of_turn (.inr ⟨hhost, rfl⟩)) hbusy.mp
  | cons event rest =>
    cases event with
    | turn => exact step_next_of_turn (fetch_of_turn (.inl hhost)) hbusy.mp
    | access a => rw [step_of_access hhost]; exact exec_decodeBus_next a _
    | poll a mask value => exact ⟨_, step_of_poll hhost⟩
    | reset => exact ⟨_, step_of_reset hhost⟩

/-! ### Words written to CMD -/

/-- A word that is no command, written while BUSY = 0, is refused (rule R235). -/
theorem commandWrite_of_illegal {s : State} (hb : s.busy = false) {v : Word} (h1 : v ≠ 0x00000001#32)
    (h2 : v ≠ 0x00000002#32) : s.commandWrite v = s.refuseBadCommand := by
  rw [State.commandWrite, if_neg (by simp [hb]), if_neg h1, if_neg h2]

/-- Settles O16: with BUSY = 0 both commands are accepted. -/
theorem legalCommandAccepted : Obligations.LegalCommandAccepted := by
  intro s hb
  have hidle : ¬s.busy = true := by simp [hb]
  constructor
  · rw [exec_fftFwd, execFftFwd, if_neg hidle]; rfl
  · rw [exec_fftInv, execFftInv, if_neg hidle]; rfl

/-- Settles O17: with BUSY = 1 each command row, and the write to CMD, is the overrun. -/
theorem commandWhileBusyOverruns : Obligations.CommandWhileBusyOverruns := by
  intro s hb
  refine ⟨?_, ?_, fun rsv opc => ?_, fun v => ?_⟩
  · rw [exec_fftFwd, execFftFwd, if_pos hb]; rfl
  · rw [exec_fftInv, execFftInv, if_pos hb]; rfl
  · rw [exec_badCmd, execBadCmd, if_pos hb]; rfl
  · exact (execWr_cmd v s).trans (by rw [commandWrite_of_busy hb]; rfl)

/-- Settles O18: with BUSY = 0 the BADCMD row, and the write of an illegal word to CMD, is the refusal. -/
theorem illegalWordIsBadCommand : Obligations.IllegalWordIsBadCommand := by
  intro s hb
  refine ⟨fun rsv opc _ => ?_, fun v h1 h2 => ?_, rfl⟩
  · rw [exec_badCmd, execBadCmd, if_neg (by simp [hb])]; rfl
  · exact (execWr_cmd v s).trans (by rw [commandWrite_of_illegal hb h1 h2]; rfl)

/-! ### VALIDATE -/

theorem exec_validate (s : State) : exec .validate s = execValidate s := rfl

/-- The second check of VALIDATE refuses exactly the lengths that are no power of two from 32 on (rules R234, R237). -/
theorem invalidLength_eq_false_iff (a : Word) : invalidLength a = false ↔ ∃ k, 5 ≤ k ∧ a.toNat = 2 ^ k := by
  constructor
  · intro hv
    -- An instance with no bound but that of the word.
    obtain ⟨k, hk, -, ha⟩ := legalLength_of_valid (p := { Params.default with log2Nmax := 32 }) hv a.isLt.le
    exact ⟨k, hk, ha⟩
  · rintro ⟨k, hk, ha⟩
    exact invalidLength_two_pow hk ha

/-- Neither a length that is no power of two nor one below 32 passes the second check (rule R237). -/
theorem invalidLength_of_not_two_pow_or_lt {a : Word} (h : (¬∃ k, a.toNat = 2 ^ k) ∨ a.toNat < 32) :
    invalidLength a = true := by
  by_contra hv
  obtain ⟨k, hk, ha⟩ := (invalidLength_eq_false_iff a).mp (by simpa using hv)
  rcases h with hpow | hlt
  · exact hpow ⟨k, ha⟩
  · exact hlt.not_ge (ha ▸ Nat.pow_le_pow_right Nat.two_pos hk)

/-- Settles O22, by the three checks, which a power of two in [32, NMAX] passes. -/
theorem validateLatchesLegalLength : Obligations.ValidateLatchesLegalLength :=
  fun s _ _ hlen hn hk hmax => (exec_validate s).trans (execValidate_two_pow hlen hn hk hmax)

/-- Settles O23: each error is raised by the check that fails, after those before it passed. -/
theorem validateRaisesFirstError : Obligations.ValidateRaisesFirstError := by
  intro s
  rw [exec_validate]
  refine ⟨fun hne => ?_, fun hlen hbad => ?_, fun hlen hpow hlarge => ?_, rfl, rfl, rfl⟩
  · rw [execValidate, if_pos hne]; rfl
  · rw [execValidate, if_neg (not_not.mpr hlen), if_pos (invalidLength_of_not_two_pow_or_lt hbad)]; rfl
  · have hvalid : invalidLength s.lenRe = false := (invalidLength_eq_false_iff _).mpr hpow
    have hmax : s.cfg.nmax < s.lenRe.toNat := hlarge
    rw [execValidate, if_neg (not_not.mpr hlen), if_neg (by simp [hvalid]), if_pos hmax]; rfl

/-! ### Tail -/

/-- Settles O57, by the four cases of Tail. -/
theorem tailChoosesNextPhase : Obligations.TailChoosesNextPhase := by
  intro s
  have hmerge : s.nLat.log2 - 5 = mergeStages s.nLat := rfl
  rw [hmerge]
  obtain ⟨hlt, ht⟩ | ⟨hle, hr, ht⟩ | ⟨hle, hr, hd, ht⟩ | ⟨hle, hr, hd, ht⟩ := tail_cases s <;> rw [ht]
  · rw [if_pos hlt]; rfl
  · rw [if_neg hle.not_gt, if_pos hr]
  · rw [if_neg hle.not_gt, if_neg (by simp [hr]), if_pos hd]
  · rw [if_neg hle.not_gt, if_neg (by simp [hr]), if_neg (by simp [hd])]; rfl

end Sys2Proof.Machine
end

section
/-! SUPPORT. The state after reset: the invariant starts there, every register and all of the sequencer take their reset
values, and every bank word is drawn anew (rules R290 to R293). -/

namespace Sys2Proof.Machine

/-! ### The invariant at reset -/

/-- After reset the sequencer is idle: BUSY = 0, ERR clear, STAGE 0 (rule R293). -/
theorem resetOf_controlOk (cfg : Params) : (State.resetOf cfg).ControlOk := by
  simp [State.ControlOk, State.resetOf]

/-- At IDLE after reset ROLE is X and the cursor is empty (rule R293). -/
theorem resetOf_phaseOk (cfg : Params) : (State.resetOf cfg).PhaseOk := ⟨rfl, rfl⟩

/-- Settles O10: the banks are empty, the ROMs hold their contents and the sequencer is idle. -/
theorem invAtReset : Obligations.InvAtReset := fun cfg hcfg =>
  ⟨hcfg, rfl, resetOf_banksOk cfg, resetOf_controlOk cfg, resetOf_phaseOk cfg⟩

/-! ### The registers and the sequencer after a reset -/

/-- CTRL is 0 after a reset: the interrupt is masked (rules R22, R293). -/
@[simp] theorem afterReset_ctrlWord (s : State) : s.afterReset.ctrlWord = 0 :=
  (by decide : State.reset.ctrlWord = 0)

/-- STATUS is 0 after a reset, every field of it, whatever the instance (rules R23, R293). -/
@[simp] theorem afterReset_statusWord (s : State) : s.afterReset.statusWord = 0 :=
  (by decide : State.reset.statusWord = 0)

/-- CAP is not reset: the instance stays (rules R24, R293). -/
@[simp] theorem afterReset_capWord (s : State) : s.afterReset.capWord = s.capWord := capWord_congr rfl

/-- Settles O14: the host's words, then the fields; CMD reads 0 as always, and with BUSY = 0 a command is accepted. -/
theorem resetPutsResetState : Obligations.ResetPutsResetState := by
  intro s hrom t
  obtain ⟨-, hreadCmd, -⟩ := registerReads t
  obtain ⟨hfftFwd, -⟩ := legalCommandAccepted t rfl
  exact ⟨afterReset_ctrlWord s, afterReset_statusWord s, afterReset_capWord s, rfl, rfl, hrom,
    rfl, rfl, rfl, rfl, rfl, rfl, rfl,
    rfl, rfl, rfl, rfl, rfl, rfl,
    ⟨_, hreadCmd, rfl⟩, ⟨_, hfftFwd, rfl⟩⟩

/-! ### The banks after a reset -/

/-- After a reset no bank lists a word (rule R291, log 7). -/
@[simp] theorem afterReset_bank (s : State) (b : BankId) : s.afterReset.bank b = [] := by
  cases b <;> rfl

/-- After a reset every bank word is the free value of the new epoch (rule R291, logs 7 and 10). -/
theorem afterReset_readWord (s : State) (b : BankId) (i : Nat) :
    s.afterReset.readWord b i = Config.resetWord (s.epoch + 1) b.code i := by
  rw [readWord_eq, afterReset_bank]; rfl

/-- Settles O15: the event is one step to the state after reset, whose banks are drawn anew and whose fields outside the
block are those before it. -/
theorem resetDrawsBanksAnew : Obligations.ResetDrawsBanksAnew := fun _ _ hhost =>
  ⟨_, step_of_reset hhost, afterReset_readWord _, rfl, rfl, rfl, rfl, rfl⟩

end Sys2Proof.Machine
end
